-- ==== Sys2Proof/Word.lean ====
section
/-! DEFINITION. The fixed-width values of the Register Transport engine (00_scope.md R9, R11). Every value is
unsigned; bit 0 is the least significant bit. -/

namespace Sys2Proof

/-- One byte of a frame body or of a payload. -/
abbrev Byte := BitVec 8

/-- A remote register address, REG_ADDR_W = 16 bits (00_scope.md R9). -/
abbrev RegAddr := BitVec 16

/-- A 32-bit value: a bus identifier (ID_W), a bus address (BUS_ADDR_W), a command word, a CSR. -/
abbrev Word := BitVec 32

/-- The payload operand P of a command, 48 bits (30_encoding.md R76). -/
abbrev Payload := BitVec 48

end Sys2Proof
end

