-- ==== Sys2Proof/Config.lean ====
section
/-! DEFINITION. What an implementation of the engine fixes (00_scope.md R9, R10), the free values standing for
what the spec leaves to the environment, and the accessor layer's register map (20_memory.md R52), kept as
information. -/

namespace Sys2Proof

/-! ### Constants of the source (00_scope.md R9) -/

/-- SEND_BASE (R9, 40_init.md R91). -/
def Config.sendBase : Word := 0x000C0300#32

/-- REPLY_BASE (R9, 40_init.md R91). -/
def Config.replyBase : Word := 0x000C0200#32

/-- FRAME_MAX: a frame body carries at most 8 bytes (R9). -/
def Config.frameMax : Nat := 8

/-- ECHO_LEN: the two address bytes that open a body (R9). -/
def Config.echoLen : Nat := 2

/-- PAYLOAD_MAX: a payload carries at most 6 bytes (R9). -/
def Config.payloadMax : Nat := 6

/-- TIMEOUT_TICKS (R9, 70_reset_and_hazards.md R173): the window of a READ, in clock ticks. -/
def Config.timeoutTicks : Nat := 500

/-- CLOCK_W, the default width of the clock (R10; 92_eei_decisions.md D15). -/
def Config.clockW : Nat := 32

/-- BIT_RATE, the default the caller passes to INIT, in bit/s (R10; 30_encoding.md R86). -/
def Config.bitRate : Nat := 250000

/-- CLOCK_REF, the default the caller passes to INIT, in Hz (R10; 30_encoding.md R86). -/
def Config.clockRef : Nat := 8000000

/-- The source's "broadcast" literal, verbatim: no 32-bit identifier, and no rule uses it (90_conflicts.md C1;
20_memory.md R53). -/
def Config.broadcastLiteral : Nat := 0x000C0300FF

/-! ### Parameters with no stated value (00_scope.md R10). Assumption log 11. -/

/-- HANDLE: an opaque chip-select or handle value, passed through to `BusConfigure` (R10). -/
opaque Config.handle : Nat

/-- TICK_UNIT: the physical length of one clock tick. No rule depends on it (R10, 60_exceptions.md R152), so
nothing reads it. -/
opaque Config.tickUnit : Nat

/-! ### Free values: the environment's answers (00_scope.md R13, 10_state.md R36, R37). Assumption log 2.
Argument: how many answers of that kind came before. -/

/-- The answer of `BusStart()`: any bit. -/
opaque Config.freeStart : Nat → Bool

/-- The answer of `BusPoll()`: any bit. -/
opaque Config.freePoll : Nat → Bool

/-- The answer of `BusAvail()`: any integer, negative or above 8 too. -/
opaque Config.freeAvail : Nat → Int

/-- The answer of `BusReadByte()`: any byte. -/
opaque Config.freeByte : Nat → Byte

/-- The answer of `ClockRead()`, before it is reduced to CLOCK_W bits: any value. -/
opaque Config.freeClock : Nat → Nat

/-! ### The remote register map (20_memory.md R52): the accessor layer's table. The engine never reads it. -/

/-- One row of the register map: name, address, width in bytes, scale or meaning. -/
structure RegisterRow where
  name    : String
  addr    : RegAddr
  width   : Nat
  meaning : String
  deriving DecidableEq, Repr

/-- The register map, verbatim from 20_memory.md R52. -/
def Config.registerMap : List RegisterRow :=
  [⟨"Operation (on/off)", 0x0000#16, 1, "0=OFF,1=ON"⟩,
   ⟨"Vout set", 0x0020#16, 2, "×0.01 V"⟩,
   ⟨"Iout set", 0x0030#16, 2, "×0.01 A"⟩,
   ⟨"Fault status", 0x0040#16, 2, "bitfield"⟩,
   ⟨"Vin read", 0x0050#16, 2, "×0.1 V"⟩,
   ⟨"Vout read", 0x0060#16, 2, "×0.01 V"⟩,
   ⟨"Iout read", 0x0061#16, 2, "×0.01 A"⟩,
   ⟨"Temperature", 0x0062#16, 2, "×0.1 °C"⟩] ++
  [⟨"Scaling factor", 0x00C0#16, 2, "raw"⟩,
   ⟨"System status", 0x00C1#16, 2, "bitfield"⟩,
   ⟨"System config", 0x00C2#16, 2, "3-bit code"⟩,
   ⟨"Direction ctrl", 0x0100#16, 1, "0=fwd,1=reverse"⟩,
   ⟨"Reverse Vout set", 0x0120#16, 2, "×0.01 V"⟩,
   ⟨"Reverse Iout set", 0x0130#16, 2, "×0.01 A"⟩,
   ⟨"Bidirectional config", 0x0140#16, 2, "0/1"⟩]

end Sys2Proof
end

