-- ==== Sys2Proof/Syntax.lean ====
section
/-! DEFINITION. The four commands of the engine with the operands they take (30_encoding.md R70 to R77, R81), what
the caller presents at the command interface, and the pseudo-instructions of 30_encoding.md R87. -/

namespace Sys2Proof

/-- The INIT operand `bus_cfg` (30_encoding.md R77): passed to `BusConfigure` unchanged, never interpreted. Its
three values have no stated width (assumption log 7). -/
structure BusCfg where
  handle   : Nat
  bitRate  : Nat
  clockRef : Nat
  deriving DecidableEq, Repr

/-- The default `bus_cfg` of the assembler syntax (30_encoding.md R86). -/
def BusCfg.default : BusCfg := ⟨Config.handle, Config.bitRate, Config.clockRef⟩

/-- What the caller hands over with `issue(cmd, payload, bus_addr, bus_cfg)` (10_state.md R35). -/
structure Issue where
  cmd     : Word
  payload : Payload
  busAddr : Word
  busCfg  : BusCfg
  deriving DecidableEq, Repr

/-- A command, one constructor per row of the opcode table, with the operands that command takes (30_encoding.md
R81). INIT and WRITE carry the operands that accompany the word; assumption log 7. -/
inductive Instr where
  /-- INIT (40_init.md R90). -/
  | init (busAddr : Word) (cfg : BusCfg)
  /-- WRITE (41_write.md R101): LEN is the payload length, 0..15. -/
  | write (addr : RegAddr) (len : BitVec 4) (payload : Payload)
  /-- READ (42_read.md R110). -/
  | read (addr : RegAddr)
  /-- DECODE (43_decode.md R130). -/
  | decode
  deriving DecidableEq, Repr

/-- The pseudo-instructions of 30_encoding.md R87, and the list form of WRITE (R86) that they stand on. -/
inductive Pseudo where
  | writeBytes (addr : RegAddr) (bytes : List Byte)
  | write8 (addr : RegAddr) (v : Byte)
  | write16 (addr : RegAddr) (v : BitVec 16)
  | read16 (addr : RegAddr)
  | read8 (addr : RegAddr)
  deriving DecidableEq, Repr

end Sys2Proof
end

