-- ==== Sys2Proof/WellFormed.lean ====
section
/-! DEFINITION. Which command words are legal (30_encoding.md R75, R79, R88), said by the list of illegal words of
R79 and apart from the decoder. A term of Instr needs no check of its own: its field types hold the bounds (LEN is
4 bits and 7..15 is legal, R80). Bits are read off the word as a number, bit 0 the least significant. -/

namespace Sys2Proof

/-- OP, bits 2:0 (30_encoding.md R71), as a number. -/
def Issue.opN (q : Issue) : Nat := q.cmd.toNat % 8
/-- LEN, bits 6:3. -/
def Issue.lenN (q : Issue) : Nat := q.cmd.toNat / 8 % 16
/-- RSV0, bit 7. -/
def Issue.rsv0N (q : Issue) : Nat := q.cmd.toNat / 128 % 2
/-- ADDR, bits 23:8. -/
def Issue.addrN (q : Issue) : Nat := q.cmd.toNat / 256 % 65536
/-- RSV1, bits 31:24. -/
def Issue.rsv1N (q : Issue) : Nat := q.cmd.toNat / 16777216

/-- No reserved bit is set (R75). -/
def Issue.reservedZero (q : Issue) : Bool := q.rsv0N == 0 && q.rsv1N == 0
/-- OP is one of the four commands (R72). -/
def Issue.opAssigned (q : Issue) : Bool := q.opN < 4
/-- LEN is 0 where the command takes no LEN: all but WRITE (R73). -/
def Issue.lenAllowed (q : Issue) : Bool := q.opN == 1 || q.lenN == 0
/-- ADDR is 0 where the command takes no ADDR: INIT and DECODE (R74). -/
def Issue.addrAllowed (q : Issue) : Bool := q.opN == 1 || q.opN == 2 || q.addrN == 0

/-- The list form of WRITE takes at most 6 bytes (30_encoding.md R86). -/
def Pseudo.wellFormed : Pseudo → Bool
  | .writeBytes _ bytes => bytes.length ≤ Config.payloadMax
  | .write8 _ _ => true
  | .write16 _ _ => true
  | .read16 _ => true
  | .read8 _ => true

/-- The word is none of the illegal words of R79. The operands beside the word are never illegal. -/
def Issue.wellFormed (q : Issue) : Bool :=
  q.reservedZero && q.opAssigned && q.lenAllowed && q.addrAllowed

end Sys2Proof
end

