-- ==== Sys2Proof/Decode.lean ====
section
/-! DEFINITION. The decoder of 30_encoding.md R78, total on all 2^32 words, and the encoder written from the field
table of R71, with the expansion of the pseudo-instructions of R87. -/

namespace Sys2Proof

/-! ### Fields of the command word (30_encoding.md R71) -/

/-- OP = cmd[2:0]. -/
def fieldOp (cmd : Word) : BitVec 3 := cmd.extractLsb' 0 3
/-- LEN = cmd[6:3]. -/
def fieldLen (cmd : Word) : BitVec 4 := cmd.extractLsb' 3 4
/-- RSV0 = cmd[7]. -/
def fieldRsv0 (cmd : Word) : BitVec 1 := cmd.extractLsb' 7 1
/-- ADDR = cmd[23:8]. -/
def fieldAddr (cmd : Word) : RegAddr := cmd.extractLsb' 8 16
/-- RSV1 = cmd[31:24]. -/
def fieldRsv1 (cmd : Word) : BitVec 8 := cmd.extractLsb' 24 8

/-- Why a word is illegal (30_encoding.md R79). The engine records ILLEGAL_CMD for each of them and not the reason
(60_exceptions.md R141); the reasons are the model's names (assumption log 7). -/
inductive DecodeError where
  /-- RSV0 or RSV1 is nonzero (R75). -/
  | reservedBits
  /-- OP is 100, 101, 110 or 111 (R72). -/
  | reservedOp
  /-- LEN is nonzero in a command that takes none (R73). -/
  | lenNotZero
  /-- ADDR is nonzero in a command that takes none (R74). -/
  | addrNotZero
  deriving DecidableEq, Repr

/-- The decoder (30_encoding.md R78), with the operands that OP takes from beside the word (R81). -/
def decode (q : Issue) : Except DecodeError Instr :=
  if fieldRsv0 q.cmd ≠ 0 ∨ fieldRsv1 q.cmd ≠ 0 then .error .reservedBits
  else if fieldOp q.cmd = 0b000#3 then
    if fieldLen q.cmd ≠ 0 then .error .lenNotZero
    else if fieldAddr q.cmd ≠ 0 then .error .addrNotZero
    else .ok (.init q.busAddr q.busCfg)
  else if fieldOp q.cmd = 0b001#3 then .ok (.write (fieldAddr q.cmd) (fieldLen q.cmd) q.payload)
  else if fieldOp q.cmd = 0b010#3 then
    if fieldLen q.cmd ≠ 0 then .error .lenNotZero else .ok (.read (fieldAddr q.cmd))
  else if fieldOp q.cmd = 0b011#3 then
    if fieldLen q.cmd ≠ 0 then .error .lenNotZero
    else if fieldAddr q.cmd ≠ 0 then .error .addrNotZero
    else .ok .decode
  else .error .reservedOp

/-- A command word from its fields: the pattern string of 30_encoding.md R71, bit 31 first. -/
def cmdWord (addr : RegAddr) (len : BitVec 4) (op : BitVec 3) : Word :=
  0b00000000#8 ++ addr ++ 0b0#1 ++ len ++ op

/-- An issue whose operands beside the word are all zero: `.word` of 30_encoding.md R86. -/
def wordIssue (cmd : Word) : Issue := ⟨cmd, 0#48, 0#32, ⟨0, 0, 0⟩⟩

/-- The encoder (30_encoding.md R71, R72, R81): the word of a command, and beside it the operands it takes; an
operand it does not take is zero. -/
def encode : Instr → Issue
  | .init busAddr cfg => { wordIssue (cmdWord 0#16 0#4 0b000#3) with busAddr := busAddr, busCfg := cfg }
  | .write addr len payload => { wordIssue (cmdWord addr len 0b001#3) with payload := payload }
  | .read addr => wordIssue (cmdWord addr 0#4 0b010#3)
  | .decode => wordIssue (cmdWord 0#16 0#4 0b011#3)

/-- The payload operand with byte i of the list in P[8i+7:8i] (30_encoding.md R76, R86). -/
def packPayload : List Byte → Payload
  | [] => 0#48
  | b :: bs => b.setWidth 48 ||| (packPayload bs <<< 8)

/-- What a pseudo-instruction stands for (30_encoding.md R87). The commands of a list are issued in order; the
engine holds the second until the first has returned (10_state.md R35). -/
def expandPseudo : Pseudo → List Instr
  | .writeBytes addr bytes => [.write addr (BitVec.ofNat 4 bytes.length) (packPayload bytes)]
  | .write8 addr v => [.write addr 1#4 (packPayload [v])]
  | .write16 addr v => [.write addr 2#4 (packPayload [v.extractLsb' 0 8, v.extractLsb' 8 8])]
  | .read16 addr => [.read addr, .decode]
  | .read8 addr => [.read addr, .decode]

/-- The issue of a word of the opcode table: the low `nbits` bits of `w`, every bit above them 0, every operand
beside the word 0. -/
def tableIssue (nbits w : Nat) : Issue := wordIssue (BitVec.ofNat 32 (w % 2 ^ nbits))

/-- The instruction the decoder reads from a word of the opcode table; none where it refuses. -/
def decodeTableWord (nbits w : Nat) : Option Instr :=
  match decode (tableIssue nbits w) with
  | .ok i => some i
  | .error _ => none

end Sys2Proof
end

