-- ==== Sys2Proof/Machine/State.lean ====
section
/-! DEFINITION. The state of the machine as plain data: the engine's registers (10_state.md R22), the history of
events (00_scope.md R13), and the three other agents as the data they hand over (10_state.md R20, R35 to R37). -/

namespace Sys2Proof.Machine

/-! ### Enumerations of the engine -/

/-- `phase` (10_state.md R23). -/
inductive Phase where
  | uninit
  | ready
  | failed
  deriving DecidableEq, Repr

/-- `state`, the sequencer that stands where an ISA has a program counter (10_state.md R25). -/
inductive Seq where
  | idle
  | awaitingReply
  deriving DecidableEq, Repr

/-- `res_code` (60_exceptions.md R140). -/
inductive ResCode where
  | none
  | ok
  | initFailure
  | timeout
  | echoMismatch
  | invalidArgument
  deriving DecidableEq, Repr

/-- `fault`, the sticky fault register (10_state.md R32, 60_exceptions.md R141). -/
inductive FaultCode where
  | none
  | illegalCmd
  | notReady
  | reinit
  deriving DecidableEq, Repr

/-! ### The engine's registers -/

/-- The complete state of the engine, field by field as in 10_state.md R22. -/
structure Engine where
  /-- `phase` (R23). -/
  phase    : Phase
  /-- `send_id` (R24). -/
  sendId   : Word
  /-- `reply_id` (R24). -/
  replyId  : Word
  /-- `state` (R25). -/
  seq      : Seq
  /-- `req_addr` (R26). -/
  reqAddr  : RegAddr
  /-- `t0` (R27): a clock value, below 2^CLOCK_W. -/
  t0       : Nat
  /-- `rx_buf[0..7]` (R28). -/
  rxBuf    : Vector Byte 8
  /-- `rx_count`, 0..8 (R28). -/
  rxCount  : Fin 9
  /-- `res_code` (R29). -/
  resCode  : ResCode
  /-- `pay_valid` (R30). -/
  payValid : Bool
  /-- `pay_len`, 0..6 (R30). -/
  payLen   : Fin 7
  /-- `pay[0..5]` (R30). -/
  pay      : Vector Byte 6
  /-- `dec_valid` (R31). -/
  decValid : Bool
  /-- `dec_value` (R31). -/
  decValue : BitVec 16
  /-- `fault` (R32). -/
  fault    : FaultCode
  deriving DecidableEq, Repr

/-- Every byte of the receive buffer 0x00. -/
def zeroRx : Vector Byte 8 := #v[0, 0, 0, 0, 0, 0, 0, 0]

/-- Every byte of the payload 0x00. -/
def zeroPay : Vector Byte 6 := #v[0, 0, 0, 0, 0, 0]

/-- The reset values of 10_state.md R22 and 70_reset_and_hazards.md R165. -/
def Engine.reset : Engine where
  phase    := .uninit
  sendId   := 0
  replyId  := 0
  seq      := .idle
  reqAddr  := 0
  t0       := 0
  rxBuf    := zeroRx
  rxCount  := 0
  resCode  := .none
  payValid := false
  payLen   := 0
  pay      := zeroPay
  decValid := false
  decValue := 0
  fault    := .none

/-! ### Events -/

/-- The frame format of 30_encoding.md R82: extended addressing, a data frame (92_eei_decisions.md D29). -/
inductive FrameFormat where
  | extendedData
  deriving DecidableEq, Repr

/-- A transmitted frame: identifier, format and body (30_encoding.md R82). -/
structure Frame where
  id     : Word
  format : FrameFormat
  body   : List Byte
  deriving DecidableEq, Repr

/-- One recorded event of the engine with the answer it got (00_scope.md R13). A transmitted frame is ONE event
(41_write.md R100). -/
inductive Event where
  | busConfigure (cfg : BusCfg)
  | busStart (ok : Bool)
  | txFrame (frame : Frame)
  | busPoll (hit : Bool)
  | busAvail (n : Int)
  | busReadByte (b : Byte)
  | clockRead (t : Nat)
  deriving DecidableEq, Repr

/-- The nine primitives of 00_scope.md R13 as calls, without their answers. -/
inductive Prim where
  | busConfigure (handle bitRate clockRef : Nat)
  | busStart
  | busBeginFrame (id : Word)
  | busWriteByte (b : Byte)
  | busEndFrame
  | busPoll
  | busAvail
  | busReadByte
  | clockRead
  deriving DecidableEq, Repr

/-! ### The environment's data. Assumption log 1, 2, 3. -/

/-- Parameters of the run that no step changes (00_scope.md R9, R10; 10_state.md R40; 70_reset_and_hazards.md
R167). Assumption log 3. -/
structure Params where
  /-- CLOCK_W. -/
  clockW       : Nat
  /-- TIMEOUT_TICKS. -/
  timeoutTicks : Nat
  deriving DecidableEq, Repr

/-- The answers of one primitive: the given ones, first first, and how many were already taken. Past the given ones
the answer is the free value of Config at that count. Assumption log 2. -/
structure Answers (α : Type) where
  given : List α
  drawn : Nat
  deriving DecidableEq, Repr

/-- The answers the collaborator and the clock will give (10_state.md R36, R37). -/
structure Script where
  start : Answers Bool
  poll  : Answers Bool
  avail : Answers Int
  byte  : Answers Byte
  clock : Answers Nat
  deriving DecidableEq, Repr

/-- Whose move is next (10_state.md R20, R35; 70_reset_and_hazards.md R165, R182). Assumption log 1. -/
inductive Turn where
  /-- The engine takes its step. -/
  | engine
  /-- The caller reads a CSR, 0..15. -/
  | csrRead (n : Fin 16)
  /-- The host resets the engine. -/
  | reset
  deriving DecidableEq, Repr

/-- A CSR value handed to the caller. -/
structure CsrRead where
  index : Fin 16
  value : Word
  deriving DecidableEq, Repr

/-- No answer given. -/
def Answers.none {α : Type} : Answers α := ⟨[], 0⟩

/-- No answer given for any primitive. -/
def Script.none : Script := ⟨Answers.none, Answers.none, Answers.none, Answers.none, Answers.none⟩

/-- The default parameters (00_scope.md R9, R10). -/
def Params.default : Params := ⟨Config.clockW, Config.timeoutTicks⟩

/-! ### The machine -/

/-- The state of the machine. -/
structure State where
  /-- The engine's registers (10_state.md R22). -/
  eng    : Engine
  /-- The run's parameters (10_state.md R40). -/
  params : Params
  /-- Whose moves come next; when empty, the engine's. -/
  turns  : List Turn
  /-- The commands the caller has still to issue, the next first (10_state.md R35). -/
  issues : List Issue
  /-- The environment's answers to come. -/
  script : Script
  /-- The history of events, the oldest first (00_scope.md R13). -/
  events : List Event
  /-- The CSR values handed to the caller, the oldest first (10_state.md R33). -/
  csrOut : List CsrRead
  deriving DecidableEq, Repr

/-- The machine right after reset (70_reset_and_hazards.md R165, R166): every register at its reset value, nothing
issued, nothing recorded. -/
def State.reset : State where
  eng    := Engine.reset
  params := Params.default
  turns  := []
  issues := []
  script := Script.none
  events := []
  csrOut := []

/-- Why the machine stops. -/
inductive Fault where
  /-- Raised by the engine's turn, and by every command's acceptance, when `fault` is not NONE: the engine has no step
  until reset (60_exceptions.md R142). Safe: the spec gives no step, and the model stops. -/
  | stuck (code : FaultCode)
  /-- Raised by a command's acceptance while a READ is outstanding: the issue has no step and the caller holds
  (10_state.md R35). The machine's step never offers a command then. Safe: the spec gives no step. -/
  | held
  deriving DecidableEq, Repr

/-- Why the machine refuses an instruction. -/
inductive Refusal where
  /-- Raised by an arm of exec whose instruction has no meaning yet. No arm raises it. Safe. -/
  | notModelled (mnemonic : String)
  deriving DecidableEq, Repr

end Sys2Proof.Machine
end

