-- ==== Sys2Proof/Machine/Operands.lean ====
section
/-! DEFINITION. The data operations of the engine: the address bytes, the frame encoder, the identifier mapper, the
count clamp, the receive buffer, the payload extraction and the two decoders. All values are unsigned and no
operation raises an error (43_decode.md R135). -/

namespace Sys2Proof.Machine

/-- `low(addr)` (00_scope.md R11). -/
def lowByte (addr : RegAddr) : Byte := addr.extractLsb' 0 8

/-- `high(addr)` (00_scope.md R11). -/
def highByte (addr : RegAddr) : Byte := addr.extractLsb' 8 8

/-- The identifier mapper (40_init.md R91): addition modulo 2^32, the carry out discarded. -/
def idmap (base busAddr : Word) : Word := base + busAddr

/-- Byte i of the payload operand, P[8i+7:8i] (30_encoding.md R76). -/
def payloadByte (p : Payload) (i : Nat) : Byte := p.extractLsb' (8 * i) 8

/-- The first n bytes of the payload operand in index order (41_write.md R101). -/
def payloadBytes (p : Payload) (n : Nat) : List Byte := (List.range n).map (payloadByte p)

/-- The body of an addressed frame (30_encoding.md R83): low byte, high byte, then the payload. -/
def encodeBody (addr : RegAddr) (p : List Byte) : List Byte := [lowByte addr, highByte addr] ++ p

/-- An addressed frame on the engine's send identifier (30_encoding.md R82). -/
def addressedFrame (sendId : Word) (addr : RegAddr) (p : List Byte) : Frame :=
  ⟨sendId, .extendedData, encodeBody addr p⟩

/-- The calls an event stands for, in order (00_scope.md R13; 41_write.md R100 for a frame). -/
def eventCalls : Event → List Prim
  | .busConfigure c => [.busConfigure c.handle c.bitRate c.clockRef]
  | .busStart _ => [.busStart]
  | .txFrame f => .busBeginFrame f.id :: (f.body.map .busWriteByte ++ [.busEndFrame])
  | .busPoll _ => [.busPoll]
  | .busAvail _ => [.busAvail]
  | .busReadByte _ => [.busReadByte]
  | .clockRead _ => [.clockRead]

/-- k = min(max(n, 0), 8): the clamp of the reported byte count (42_read.md R114). -/
def clampCount (n : Int) : Fin 9 := ⟨min n.toNat 8, by omega⟩

/-- The receive buffer after a drain: the bytes read, then 0x00 (42_read.md R114). -/
def rxOf (bytes : List Byte) : Vector Byte 8 :=
  #v[bytes.getD 0 0, bytes.getD 1 0, bytes.getD 2 0, bytes.getD 3 0,
     bytes.getD 4 0, bytes.getD 5 0, bytes.getD 6 0, bytes.getD 7 0]

/-- `pay_len` after a success: `rx_count` − 2 (42_read.md R116). Used only when `rx_count` ≥ 2. -/
def payLenOf (k : Fin 9) : Fin 7 := ⟨k.val - 2, by omega⟩

/-- Payload byte i out of the receive buffer (42_read.md R112 `succeed`). -/
def payByteOf (rx : Vector Byte 8) (k : Fin 9) (i : Fin 6) : Byte :=
  if i.val + 2 < k.val then rx[i.val + 2]'(by omega) else 0

/-- `pay` after a success (42_read.md R112 `succeed`). -/
def payOf (rx : Vector Byte 8) (k : Fin 9) : Vector Byte 6 :=
  #v[payByteOf rx k 0, payByteOf rx k 1, payByteOf rx k 2,
     payByteOf rx k 3, payByteOf rx k 4, payByteOf rx k 5]

/-- The 16-bit little-endian decode (43_decode.md R131). -/
def dec16 (b0 b1 : Byte) : BitVec 16 := (b1.setWidth 16 <<< 8) ||| b0.setWidth 16

/-- The 8-bit decode (43_decode.md R132). -/
def dec8 (b0 : Byte) : BitVec 16 := b0.setWidth 16

end Sys2Proof.Machine
end

