-- ==== Sys2Proof/Machine/Flags.lean ====
section
/-! DEFINITION. The tests the engine makes and the status it shows. The engine has no condition codes; the STATUS
bits are its only flags (10_state.md R38). -/

namespace Sys2Proof.Machine

/-- Elapsed time, (now − t0) mod 2^CLOCK_W (42_read.md R113). -/
def elapsed (clockW now t0 : Nat) : Nat := (((now : Int) - (t0 : Int)) % (2 ^ clockW : Int)).toNat

/-- The window of the outstanding READ has elapsed: elapsed ≥ TIMEOUT_TICKS (42_read.md R113). -/
def windowElapsed (p : Params) (now t0 : Nat) : Bool := p.timeoutTicks ≤ elapsed p.clockW now t0

/-- The echo comparator (42_read.md R115). -/
def echoOk (e : Engine) : Bool :=
  2 ≤ e.rxCount.val && e.rxBuf[0] == lowByte e.reqAddr && e.rxBuf[1] == highByte e.reqAddr

/-- DECODE has a payload it can decode: valid, of length 1 or 2 (43_decode.md R130). -/
def decodable (e : Engine) : Bool := e.payValid && (e.payLen.val == 1 || e.payLen.val == 2)

/-! ### Codes of the STATUS fields -/

/-- STATUS.PHASE (10_state.md R34). -/
def phaseCode : Phase → BitVec 2
  | .uninit => 0
  | .ready => 1
  | .failed => 2

/-- STATUS.BUSY: 1 iff a READ is outstanding (10_state.md R34). -/
def busyBit : Seq → BitVec 1
  | .idle => 0
  | .awaitingReply => 1

/-- STATUS.RES_CODE (60_exceptions.md R140). -/
def resCodeBits : ResCode → BitVec 3
  | .none => 0
  | .ok => 1
  | .initFailure => 2
  | .timeout => 3
  | .echoMismatch => 4
  | .invalidArgument => 5

/-- STATUS.FAULT (60_exceptions.md R141). -/
def faultBits : FaultCode → BitVec 2
  | .none => 0
  | .illegalCmd => 1
  | .notReady => 2
  | .reinit => 3

/-- STATUS, csr 0 (10_state.md R34), bit 31 first. -/
def statusWord (e : Engine) : Word :=
  0#18 ++ faultBits e.fault ++ BitVec.ofBool e.decValid ++ BitVec.ofNat 3 e.payLen.val ++
    BitVec.ofBool e.payValid ++ resCodeBits e.resCode ++ 0#1 ++ busyBit e.seq ++ phaseCode e.phase

/-- The status register file (10_state.md R33): csr 0 to 5, the rest reserved and reading 0. -/
def csrValue (e : Engine) (n : Fin 16) : Word :=
  match n.val with
  | 0 => statusWord e
  | 1 => e.sendId
  | 2 => e.replyId
  | 3 => e.pay[3].setWidth 32 <<< 24 ||| e.pay[2].setWidth 32 <<< 16 |||
      e.pay[1].setWidth 32 <<< 8 ||| e.pay[0].setWidth 32
  | 4 => e.pay[5].setWidth 32 <<< 8 ||| e.pay[4].setWidth 32
  | 5 => e.decValue.setWidth 32
  | _ => 0

end Sys2Proof.Machine
end

