-- ==== Sys2Proof/Machine/Ops.lean ====
section
/-! DEFINITION. The named operations on the state: the environment's answers, the primitives of 00_scope.md R13 as
recorded events, posting a result, raising a fault, accepting a command, and the host's two other actions. -/

namespace Sys2Proof.Machine

/-! ### Answers (assumption log 2) -/

/-- The i-th answer to come: the given one, or past the given ones a free value. -/
def answerAt {α : Type} (a : Answers α) (free : Nat → α) (i : Nat) : α :=
  a.given[i]?.getD (free (a.drawn + i))

/-- What is left after k answers are taken. -/
def answersAfter {α : Type} (a : Answers α) (k : Nat) : Answers α := ⟨a.given.drop k, a.drawn + k⟩

/-- What `BusStart()` will answer. -/
def State.nextStart (s : State) : Bool := answerAt s.script.start Config.freeStart 0

/-- What `BusPoll()` will answer. -/
def State.nextPoll (s : State) : Bool := answerAt s.script.poll Config.freePoll 0

/-- What `BusAvail()` will answer. -/
def State.nextAvail (s : State) : Int := answerAt s.script.avail Config.freeAvail 0

/-- What the next k calls of `BusReadByte()` will answer. -/
def State.nextBytes (s : State) (k : Nat) : List Byte :=
  (List.range k).map (answerAt s.script.byte Config.freeByte)

/-- What `ClockRead()` will answer: a CLOCK_W-bit value (10_state.md R37). -/
def State.nextClock (s : State) : Nat := answerAt s.script.clock Config.freeClock 0 % 2 ^ s.params.clockW

/-! ### Primitives (00_scope.md R13): each records its event -/

/-- Append one event to the history. -/
def State.record (s : State) (e : Event) : State := { s with events := s.events ++ [e] }

/-- `BusConfigure(handle, bitRate, clockRef)`. -/
def State.busConfigure (s : State) (cfg : BusCfg) : State := s.record (.busConfigure cfg)

/-- `BusStart()`: the answer is `s.nextStart`. -/
def State.busStart (s : State) : State :=
  { s with
    script := { s.script with start := answersAfter s.script.start 1 }
    events := s.events ++ [.busStart s.nextStart] }

/-- `TxFrame(send_id, encodeBody(addr, p))`: one atomic event (41_write.md R100). -/
def State.txFrame (s : State) (addr : RegAddr) (p : List Byte) : State :=
  s.record (.txFrame (addressedFrame s.eng.sendId addr p))

/-- `ClockRead()`: the answer is `s.nextClock`. -/
def State.clockRead (s : State) : State :=
  { s with
    script := { s.script with clock := answersAfter s.script.clock 1 }
    events := s.events ++ [.clockRead s.nextClock] }

/-- `BusPoll()`: the answer is `s.nextPoll`. -/
def State.busPoll (s : State) : State :=
  { s with
    script := { s.script with poll := answersAfter s.script.poll 1 }
    events := s.events ++ [.busPoll s.nextPoll] }

/-- `BusAvail()`: the answer is `s.nextAvail`. -/
def State.busAvail (s : State) : State :=
  { s with
    script := { s.script with avail := answersAfter s.script.avail 1 }
    events := s.events ++ [.busAvail s.nextAvail] }

/-- k calls of `BusReadByte()`: the answers are `s.nextBytes k`. -/
def State.busReadBytes (s : State) (k : Nat) : State :=
  { s with
    script := { s.script with byte := answersAfter s.script.byte k }
    events := s.events ++ (s.nextBytes k).map .busReadByte }

/-! ### Results and faults -/

/-- `post(c)` (60_exceptions.md R145). -/
def State.post (s : State) (c : ResCode) : State := { s with eng := { s.eng with resCode := c } }

/-- `raise F` (60_exceptions.md R142): the engine's counterpart of taking an exception. It writes `fault` and
nothing else. There is no return from it but reset (R146). -/
def State.raise (s : State) (f : FaultCode) : State := { s with eng := { s.eng with fault := f } }

/-- The payload made empty and invalid (42_read.md R121, 40_init.md R90). -/
def State.clearPayload (s : State) : State :=
  { s with eng := { s.eng with payValid := false, payLen := 0, pay := zeroPay } }

/-- Acceptance of a command (10_state.md R35): enabled only when `fault` = NONE and `state` = IDLE. At any other
time it has no step (assumption log 5). -/
def State.accept (s : State) (after : State) : Host.Outcome State Fault Refusal :=
  if s.eng.fault ≠ .none then .fault (.stuck s.eng.fault)
  else match s.eng.seq with
    | .awaitingReply => .fault .held
    | .idle => .next after

/-! ### Turns and commands taken off their lists -/

/-- The turns to come. -/
def State.setTurns (s : State) (turns : List Turn) : State := { s with turns := turns }

/-- The commands the caller has still to issue. -/
def State.setIssues (s : State) (issues : List Issue) : State := { s with issues := issues }

/-! ### The host's other actions -/

/-- `csr_read(n)` (10_state.md R33, R35): the value goes to the caller and the engine is unchanged. -/
def State.csrRead (s : State) (n : Fin 16) : State :=
  { s with csrOut := s.csrOut ++ [⟨n, csrValue s.eng n⟩] }

/-- `reset()` (70_reset_and_hazards.md R165): every engine field takes its reset value. It makes no event and resets
neither the collaborator nor the clock. -/
def State.hostReset (s : State) : State := { s with eng := Engine.reset }

end Sys2Proof.Machine
end

