-- ==== Sys2Proof/Machine/Decoder.lean ====
section
/-! DEFINITION. DECODE (43_decode.md). -/

namespace Sys2Proof.Machine

/-- `dec_valid` and `dec_value` written. -/
def State.setDecoded (s : State) (valid : Bool) (v : BitVec 16) : State :=
  { s with eng := { s.eng with decValid := valid, decValue := v } }

/-- The value of a decodable payload: one byte or two (43_decode.md R130 to R132). -/
def decodedValue (e : Engine) : BitVec 16 :=
  if e.payLen.val = 1 then dec8 e.pay[0] else dec16 e.pay[0] e.pay[1]

/-- The execution of DECODE (43_decode.md R130). -/
def decodeRun (s : State) : State :=
  if decodable s.eng then (s.setDecoded true (decodedValue s.eng)).post .ok
  else (s.setDecoded false 0).post .invalidArgument

/-- DECODE (43_decode.md R130): in every `phase`. -/
def execDecode (s : State) : Host.Outcome State Fault Refusal := s.accept (decodeRun s)

end Sys2Proof.Machine
end

