-- ==== Sys2Proof/Machine/Init.lean ====
section
/-! DEFINITION. INIT (40_init.md). -/

namespace Sys2Proof.Machine

/-- The identifiers INIT writes (40_init.md R90, R91). -/
def State.setIds (s : State) (busAddr : Word) : State :=
  { s with eng := { s.eng with
      sendId := idmap Config.sendBase busAddr, replyId := idmap Config.replyBase busAddr } }

/-- `phase` after the start-up result (40_init.md R90). -/
def phaseAfterStart (ok : Bool) : Phase := if ok then .ready else .failed

/-- The result code of the start-up result (40_init.md R90). -/
def resAfterStart (ok : Bool) : ResCode := if ok then .ok else .initFailure

/-- `phase` written. -/
def State.setPhase (s : State) (p : Phase) : State := { s with eng := { s.eng with phase := p } }

/-- The execution of INIT once its checks have passed (40_init.md R90): one step, in the order of its
pseudocode. -/
def initRun (busAddr : Word) (cfg : BusCfg) (s : State) : State :=
  let s := (s.setIds busAddr).busConfigure cfg
  ((s.busStart.clearPayload).setPhase (phaseAfterStart s.nextStart)).post (resAfterStart s.nextStart)

/-- INIT (40_init.md R90): REINIT unless `phase` = UNINIT. -/
def execInit (busAddr : Word) (cfg : BusCfg) (s : State) : Host.Outcome State Fault Refusal :=
  s.accept (if s.eng.phase ≠ .uninit then s.raise .reinit else initRun busAddr cfg s)

end Sys2Proof.Machine
end

