-- ==== Sys2Proof/Machine/Read.lean ====
section
/-! DEFINITION. READ (42_read.md): the acceptance step, which is the command's meaning, and the poll step, which the
engine takes at each turn until the READ returns. -/

namespace Sys2Proof.Machine

/-- `req_addr` latched (42_read.md R110). -/
def State.setReqAddr (s : State) (addr : RegAddr) : State := { s with eng := { s.eng with reqAddr := addr } }

/-- `t0` latched and `state` set to AWAITING_REPLY (42_read.md R110, R111). -/
def State.awaitFrom (s : State) (t : Nat) : State :=
  { s with eng := { s.eng with t0 := t, seq := .awaitingReply } }

/-- The acceptance step of READ once the phase check has passed (42_read.md R110): the request, then the clock. -/
def readRun (addr : RegAddr) (s : State) : State :=
  let s := (s.setReqAddr addr).txFrame addr []
  s.clockRead.awaitFrom s.nextClock

/-- READ, acceptance (42_read.md R110): NOT_READY unless `phase` = READY. -/
def execRead (addr : RegAddr) (s : State) : Host.Outcome State Fault Refusal :=
  s.accept (if s.eng.phase ≠ .ready then s.raise .notReady else readRun addr s)

/-- `state` set back to IDLE. -/
def State.toIdle (s : State) : State := { s with eng := { s.eng with seq := .idle } }

/-- `fail(c)` (42_read.md R112): no payload, and the READ returns. -/
def State.failRead (s : State) (c : ResCode) : State := s.clearPayload.toIdle.post c

/-- The payload taken out of the receive buffer (42_read.md R116). -/
def State.takePayload (s : State) : State :=
  { s with eng := { s.eng with
      payValid := true
      payLen := payLenOf s.eng.rxCount
      pay := payOf s.eng.rxBuf s.eng.rxCount } }

/-- `succeed()` (42_read.md R112). -/
def State.succeedRead (s : State) : State := s.takePayload.toIdle.post .ok

/-- The receive buffer and its count written. -/
def State.setRx (s : State) (bytes : List Byte) (k : Fin 9) : State :=
  { s with eng := { s.eng with rxBuf := rxOf bytes, rxCount := k } }

/-- `drain()` (42_read.md R114): the reported count, clamped, and that many bytes. -/
def State.drain (s : State) : State :=
  let k := clampCount s.nextAvail
  let s := s.busAvail
  (s.busReadBytes k.val).setRx (s.nextBytes k.val) k

/-- What the poll step does with a frame: drain it and judge it by its echo (42_read.md R112, R115, R119). -/
def State.judgeFrame (s : State) : State :=
  let s := s.drain
  if echoOk s.eng then s.succeedRead else s.failRead .echoMismatch

/-- The poll step (42_read.md R112): the timeout test before the poll (R113, 60_exceptions.md R144). -/
def pollStep (s : State) : State :=
  let now := s.nextClock
  let s := s.clockRead
  if windowElapsed s.params now s.eng.t0 then s.failRead .timeout
  else
    let hit := s.nextPoll
    let s := s.busPoll
    if hit then s.judgeFrame else s

end Sys2Proof.Machine
end

