-- ==== Sys2Proof/Machine/Write.lean ====
section
/-! DEFINITION. WRITE (41_write.md). -/

namespace Sys2Proof.Machine

/-- The execution of WRITE once the phase check has passed (41_write.md R101, R102): a payload of more than 6 bytes is
rejected and no frame is sent. -/
def writeRun (addr : RegAddr) (len : BitVec 4) (payload : Payload) (s : State) : State :=
  if Config.payloadMax < len.toNat then s.post .invalidArgument
  else (s.txFrame addr (payloadBytes payload len.toNat)).post .ok

/-- WRITE (41_write.md R101): NOT_READY unless `phase` = READY. -/
def execWrite (addr : RegAddr) (len : BitVec 4) (payload : Payload) (s : State) :
    Host.Outcome State Fault Refusal :=
  s.accept (if s.eng.phase ≠ .ready then s.raise .notReady else writeRun addr len payload s)

end Sys2Proof.Machine
end

