-- ==== Sys2Proof/Machine/Dispatch.lean ====
section
/-! DEFINITION. The meaning of each command at its acceptance, one arm per constructor of Instr. -/

namespace Sys2Proof.Machine

open Sys2Proof

def exec (i : Instr) (s : State) : Host.Outcome State Fault Refusal :=
  match i with
  | .init busAddr cfg => Sys2Proof.Machine.execInit busAddr cfg s
  | .write addr len payload => Sys2Proof.Machine.execWrite addr len payload s
  | .read addr => Sys2Proof.Machine.execRead addr s
  | .decode => Sys2Proof.Machine.execDecode s

end Sys2Proof.Machine
end

