-- ==== Sys2Proof/Machine/Sequencer.lean ====
section
/-! DEFINITION. The sequencer: what the engine does at its turn (10_state.md R25, R41), and the turns of the other
agents (10_state.md R35; 70_reset_and_hazards.md R165). -/

namespace Sys2Proof.Machine

/-- A command taken from the caller: decoded, and run or refused with ILLEGAL_CMD (30_encoding.md R79;
60_exceptions.md R144). The operands come with it, so nothing the caller does later changes it. -/
def acceptIssue (q : Issue) (s : State) : Host.Outcome State Fault Refusal :=
  match decode q with
  | .ok i => exec i s
  | .error _ => s.accept (s.raise .illegalCmd)

/-- The engine's turn. A faulted engine has no step (60_exceptions.md R142). While a READ is outstanding the only step
is the poll step, and the caller's command is held (10_state.md R35). An idle engine takes the next command, and with
none it waits (70_reset_and_hazards.md R166; assumption log 4). -/
def engineTurn (s : State) : Host.Outcome State Fault Refusal :=
  if s.eng.fault ≠ .none then .fault (.stuck s.eng.fault)
  else match s.eng.seq with
    | .awaitingReply => .next (pollStep s)
    | .idle =>
      match s.issues with
      | [] => .next s
      | q :: rest => acceptIssue q (s.setIssues rest)

/-- One move of the agent whose turn it is; with no turn given, the engine's. -/
def takeTurn (s : State) : Host.Outcome State Fault Refusal :=
  match s.turns with
  | [] => engineTurn s
  | .engine :: rest => engineTurn (s.setTurns rest)
  | .csrRead n :: rest => .next ((s.setTurns rest).csrRead n)
  | .reset :: rest => .next (s.setTurns rest).hostReset

/-- The state with a command placed so that the next turn accepts it: first of the caller's commands, an engine turn
first, and the engine IDLE with no fault. Assumption log 6. -/
def State.withIssue (s : State) (q : Issue) : State :=
  { s with
    eng := { s.eng with seq := .idle, fault := .none }
    turns := .engine :: s.turns
    issues := q :: s.issues }

end Sys2Proof.Machine
end

