-- ==== Sys2Proof/Machine/Step.lean ====
section
/-! DEFINITION. One step of the machine, and the placing of an instruction for the host's checks. -/

namespace Sys2Proof.Machine

/-- One step: one transition of the machine (00_scope.md R7, R14). -/
def step (s : State) : Host.Outcome State Fault Refusal := takeTurn s

/-- The state with the instruction whose bits are `w` placed where the next step takes it (assumption log 6). -/
def State.withFetchWord (s : State) (nbits w : Nat) : State := s.withIssue (tableIssue nbits w)

end Sys2Proof.Machine
end

