-- ==== Sys2Proof/Safety.lean ====
section
/-! DEFINITION. The terms in which claims about the machine are made: whose turn it is, when a command is accepted,
what a reachable state looks like, when a run has ended well and what is then observed. -/

namespace Sys2Proof.Machine

/-- The next turn is the engine's, and `rest` are the turns after it. -/
def State.engineMoves (s : State) (rest : List Turn) : Prop :=
  (s.turns = [] ∧ rest = []) ∨ s.turns = .engine :: rest

/-- The engine accepts a command (10_state.md R35). -/
def State.accepting (s : State) : Prop := s.eng.fault = .none ∧ s.eng.seq = .idle

/-- A READ is outstanding and the engine is not faulted, so its step is the poll step (42_read.md R112). -/
def State.polling (s : State) : Prop := s.eng.fault = .none ∧ s.eng.seq = .awaitingReply

/-- The window of the outstanding READ is open at the clock value the next `ClockRead()` answers: the elapsed time,
taken as a natural number, is below TIMEOUT_TICKS (42_read.md R113). -/
def State.windowOpen (s : State) : Prop :=
  (s.nextClock + 2 ^ s.params.clockW - s.eng.t0) % 2 ^ s.params.clockW < s.params.timeoutTicks

/-- What holds of the engine's registers in every state a run reaches (10_state.md R23 to R32, 42_read.md R114 to
R121). -/
structure Engine.Inv (p : Params) (e : Engine) : Prop where
  /-- `t0` is a CLOCK_W-bit value (R22). -/
  t0_fits : e.t0 < 2 ^ p.clockW
  /-- A READ is outstanding only after a successful INIT (42_read.md R110). -/
  awaiting_ready : e.seq = .awaitingReply → e.phase = .ready
  /-- A fault is raised only at acceptance, so no READ is outstanding (60_exceptions.md R142). -/
  fault_idle : e.fault ≠ .none → e.seq = .idle
  /-- Before INIT the identifiers are at their reset values (R22). -/
  ids_before : e.phase = .uninit → e.sendId = 0 ∧ e.replyId = 0
  /-- After INIT they lie 0x100 apart (40_init.md R92). -/
  ids_after : e.phase ≠ .uninit → e.sendId - e.replyId = 0x100
  /-- `res_code` NONE: no INIT has completed (60_exceptions.md R140). -/
  none_uninit : e.resCode = .none → e.phase = .uninit
  /-- INIT_FAILURE is shown only in phase FAILED (40_init.md R90). -/
  failure_failed : e.resCode = .initFailure → e.phase = .failed
  /-- A payload or a decoded value exists only in phase READY. -/
  value_ready : e.payValid = true ∨ e.decValid = true → e.phase = .ready
  /-- No value on failure (42_read.md R121). -/
  no_value : e.resCode = .timeout ∨ e.resCode = .echoMismatch → e.payValid = false
  /-- No payload is shown as length 0 and zero bytes (10_state.md R30). -/
  pay_empty : e.payValid = false → e.payLen = 0 ∧ e.pay = zeroPay
  /-- A payload is what follows the echo in the receive buffer (42_read.md R116). -/
  pay_received : e.payValid = true →
    2 ≤ e.rxCount.val ∧ e.payLen.val + 2 = e.rxCount.val ∧ e.pay = payOf e.rxBuf e.rxCount
  /-- While no new READ is outstanding, a payload's frame echoes `req_addr` (42_read.md R115). -/
  pay_echoed : e.payValid = true → e.seq = .idle → echoOk e = true
  /-- Bytes of the receive buffer past the count are 0x00 (42_read.md R114). -/
  rx_tail : ∀ i : Fin 8, e.rxCount.val ≤ i.val → e.rxBuf[i] = 0
  /-- No decoded value is shown as zero (10_state.md R31). -/
  dec_empty : e.decValid = false → e.decValue = 0

/-- What holds of the machine in every state a run reaches: the registers as above, and in the history every frame
has 2 to 8 bytes (30_encoding.md R85) and every clock value CLOCK_W bits (10_state.md R37). -/
structure State.Inv (s : State) : Prop where
  eng : Engine.Inv s.params s.eng
  frames : ∀ f, Event.txFrame f ∈ s.events → 2 ≤ f.body.length ∧ f.body.length ≤ Config.frameMax
  clocks : ∀ v, Event.clockRead v ∈ s.events → v < 2 ^ s.params.clockW

/-- The event is a transmitted frame. -/
def Event.isFrame : Event → Bool
  | .txFrame _ => true
  | _ => false

/-- The event is a look at the receive side: `BusPoll`, `BusAvail` or `BusReadByte` (20_memory.md R63). -/
def Event.isReceive : Event → Bool
  | .busPoll _ => true
  | .busAvail _ => true
  | .busReadByte _ => true
  | _ => false

/-- A run has ended well (70_reset_and_hazards.md R181): the caller has issued its last command, it has returned, and
there is no fault. -/
def State.endedWell (s : State) : Prop := s.issues = [] ∧ s.eng.seq = .idle ∧ s.eng.fault = .none

/-- The CSR file, csr 0 to 15 (10_state.md R33). -/
def State.csrFile (s : State) : List Word := (List.finRange 16).map (csrValue s.eng)

/-- What is observed at the end of a run: the CSR file and the history (70_reset_and_hazards.md R181). -/
def State.observation (s : State) : List Word × List Event := (s.csrFile, s.events)

end Sys2Proof.Machine
end

