-- ==== Sys2Proof/Certificates/Slice0/Obligations.lean ====
section
/-! DEFINITION. Statements about the machine, for the provers. Most are stated over all states, reachable or not;
where one needs it, an invariant of Safety is a premise. The engine has no memory (20_memory.md R50), so a frame of an
instruction speaks of its registers, its history of events and the other agents' data. -/

open Sys2Proof Sys2Proof.Machine Host

/-! ### Encoding -/

/-- Words written out from the field table of 30_encoding.md R71 and from 95_test_vectors.md L2.1 decode to the commands
they stand for, and three illegal ones to none. -/
def Obligations.SpecWordsDecode : Prop :=
  decodeTableWord 32 0x00000000 = some (.init 0 ⟨0, 0, 0⟩) ∧
  decodeTableWord 32 0x00000003 = some .decode ∧
  decodeTableWord 32 0x00006202 = some (.read 0x0062) ∧
  decodeTableWord 32 0x00FFFF02 = some (.read 0xFFFF) ∧
  decodeTableWord 32 0x00002011 = some (.write 0x0020 2 0) ∧
  decodeTableWord 32 0x00FFFF79 = some (.write 0xFFFF 15 0) ∧
  decodeTableWord 32 0x0000620A = none ∧
  decodeTableWord 32 0x00000080 = none ∧
  decodeTableWord 32 0x80000001 = none

/-- 30_encoding.md R78: the decoder is total on all words and follows the procedure, read here off the word as a number
(R71): bits 31:24 and bit 7 first, then OP with LEN and ADDR. -/
def Obligations.DecodeFollowsFieldProcedure : Prop :=
  ∀ q : Issue,
    (match decode q with
      | .ok i => some i
      | .error _ => none) =
    if q.cmd.toNat / 128 % 2 ≠ 0 ∨ q.cmd.toNat / 2 ^ 24 ≠ 0 then none
    else match q.cmd.toNat % 8 with
      | 0 => if q.cmd.toNat / 8 % 16 = 0 ∧ q.cmd.toNat / 256 % 65536 = 0
             then some (.init q.busAddr q.busCfg) else none
      | 1 => some (.write (BitVec.ofNat 16 (q.cmd.toNat / 256)) (BitVec.ofNat 4 (q.cmd.toNat / 8)) q.payload)
      | 2 => if q.cmd.toNat / 8 % 16 = 0 then some (.read (BitVec.ofNat 16 (q.cmd.toNat / 256))) else none
      | 3 => if q.cmd.toNat / 8 % 16 = 0 ∧ q.cmd.toNat / 256 % 65536 = 0 then some .decode else none
      | _ => none

/-- Every command decodes from its own encoding, with every operand at every value (30_encoding.md R71, R72, R81). -/
def Obligations.DecodeOfEncodeIsIdentity : Prop := ∀ i : Instr, decode (encode i) = .ok i

/-- A legal word is the encoding of the command it decodes to, and the command's operands are those beside the word
(30_encoding.md R78, R81). -/
def Obligations.LegalWordIsItsEncoding : Prop :=
  ∀ (q : Issue) (i : Instr), decode q = .ok i →
    (encode i).cmd = q.cmd ∧
    (match i with
      | .init busAddr cfg => busAddr = q.busAddr ∧ cfg = q.busCfg
      | .write _ _ payload => payload = q.payload
      | .read _ => True
      | .decode => True)

/-- 30_encoding.md R79: an illegal word (the list of R79, over the fields as numbers) raises ILLEGAL_CMD and nothing
else happens: only `fault` changes, in every phase. The command has left the caller's list. -/
def Obligations.IllegalWordRaisesOnlyIllegalCmd : Prop :=
  ∀ (s : State) (rest : List Turn) (q : Issue) (qs : List Issue),
    s.engineMoves rest → s.accepting → s.issues = q :: qs →
    (4 ≤ q.opN ∨ q.rsv0N ≠ 0 ∨ q.rsv1N ≠ 0 ∨
      ((q.opN = 0 ∨ q.opN = 3) ∧ (q.lenN ≠ 0 ∨ q.addrN ≠ 0)) ∨ (q.opN = 2 ∧ q.lenN ≠ 0)) →
    step s = .next { s with turns := rest, issues := qs, eng := { s.eng with fault := .illegalCmd } }

/-- `WRITE16 addr, v` (30_encoding.md R87) is one WRITE, whose frame carries the address and the value low byte first
(20_memory.md R54, R55). -/
def Obligations.Write16FrameIsLittleEndian : Prop :=
  ∀ (s : State) (addr : RegAddr) (v : BitVec 16), s.accepting → s.eng.phase = .ready →
    ∃ i, expandPseudo (.write16 addr v) = [i] ∧
      exec i s = .next { s with
        eng := { s.eng with resCode := .ok }
        events := s.events ++ [.txFrame ⟨s.eng.sendId, .extendedData,
          [addr.setWidth 8, (addr >>> 8).setWidth 8, v.setWidth 8, (v >>> 8).setWidth 8]⟩] }

/-! ### The step -/

/-- A step of an engine that accepts runs the decoded command: it is exec of that command on the state with the turn and
the command taken off their lists (10_state.md R35, R41). -/
def Obligations.StepRunsDecodedCommand : Prop :=
  ∀ (s : State) (rest : List Turn) (q : Issue) (qs : List Issue) (i : Instr),
    s.engineMoves rest → s.accepting → s.issues = q :: qs → decode q = .ok i →
    step s = exec i { s with turns := rest, issues := qs }

/-- A command is accepted exactly when `fault` = NONE and `state` = IDLE (10_state.md R35): then, and only then, its
acceptance completes, whatever the command, its operands and the phase. -/
def Obligations.CommandCompletesIffAccepting : Prop :=
  ∀ (s : State) (i : Instr), (∃ t, exec i s = .next t) ↔ s.accepting

/-- While a READ is outstanding the engine's step is a poll step: it completes, holds the caller's commands, and leaves
every register but `state`, the receive buffer, the payload and `res_code` (42_read.md R112, 10_state.md R35). -/
def Obligations.PollStepCompletesAndHoldsCommands : Prop :=
  ∀ (s : State) (rest : List Turn), s.engineMoves rest → s.polling →
    ∃ t, step s = .next t ∧ t.issues = s.issues ∧ t.turns = rest ∧ t.params = s.params ∧ t.csrOut = s.csrOut ∧
      t.script.start = s.script.start ∧
      t.eng = { s.eng with
        seq := t.eng.seq, rxBuf := t.eng.rxBuf, rxCount := t.eng.rxCount, resCode := t.eng.resCode
        payValid := t.eng.payValid, payLen := t.eng.payLen, pay := t.eng.pay }

/-- A faulted engine has no step (60_exceptions.md R142). That its turn, and a command offered to it, end in the stop
named `stuck` is the model's form of that (assumption log 5, DEDUCED). In a state that is faulted and awaiting a reply
too, which no run reaches, the stop is the model's choice (assumption log 5), where 42_read.md R112 alone would poll. -/
def Obligations.FaultedEngineHasNoStep : Prop :=
  ∀ (s : State) (rest : List Turn), s.engineMoves rest → s.eng.fault ≠ .none →
    step s = .fault (.stuck s.eng.fault) ∧ ∀ i, exec i s = .fault (.stuck s.eng.fault)

/-- The fault is sticky until reset (10_state.md R32): a step from a faulted state is a reset, or it leaves every
register and the history as they were and takes no command. -/
def Obligations.FaultStaysUntilReset : Prop :=
  ∀ s t : State, s.eng.fault ≠ .none → step s = .next t →
    (∃ rest, s.turns = .reset :: rest) ∨
    (t.eng = s.eng ∧ t.events = s.events ∧ t.issues = s.issues ∧ t.script = s.script)

/-- An idle engine with no command to take waits: its turn passes and nothing else changes. The model's choice,
assumption log 4; the spec says that the engine waits for the first command (70_reset_and_hazards.md R166). -/
def Obligations.IdleEngineWaits : Prop :=
  ∀ (s : State) (rest : List Turn), s.engineMoves rest → s.endedWell → step s = .next { s with turns := rest }

/-- The CSR file (10_state.md R33): csr 3 and csr 4 pack the payload with byte 0 lowest, csr 1, 2 and 5 show their
registers, csr 6 to 15 read 0. -/
def Obligations.CsrFileShowsRegisters : Prop :=
  ∀ e : Engine,
    csrValue e 0 = statusWord e ∧ csrValue e 1 = e.sendId ∧ csrValue e 2 = e.replyId ∧
    (csrValue e 3).toNat =
      e.pay[0].toNat + 2 ^ 8 * e.pay[1].toNat + 2 ^ 16 * e.pay[2].toNat + 2 ^ 24 * e.pay[3].toNat ∧
    (csrValue e 4).toNat = e.pay[4].toNat + 2 ^ 8 * e.pay[5].toNat ∧
    (csrValue e 5).toNat = e.decValue.toNat ∧
    ∀ n : Fin 16, 6 ≤ n.val → csrValue e n = 0

/-- 10_state.md R34: the fields of STATUS, their places, their legal values, the reserved bits and the reset value. -/
def Obligations.StatusFieldsStandInPlace : Prop :=
  (∀ e : Engine,
    (statusWord e).toNat % 4 = (match e.phase with | .uninit => 0 | .ready => 1 | .failed => 2) ∧
    (statusWord e).toNat / 4 % 2 = (match e.seq with | .idle => 0 | .awaitingReply => 1) ∧
    (statusWord e).toNat / 8 % 2 = 0 ∧
    (statusWord e).toNat / 16 % 8 =
      (match e.resCode with
        | .none => 0 | .ok => 1 | .initFailure => 2 | .timeout => 3 | .echoMismatch => 4 | .invalidArgument => 5) ∧
    (statusWord e).toNat / 128 % 2 = e.payValid.toNat ∧
    (statusWord e).toNat / 256 % 8 = e.payLen.val ∧
    (statusWord e).toNat / 2048 % 2 = e.decValid.toNat ∧
    (statusWord e).toNat / 4096 % 4 =
      (match e.fault with | .none => 0 | .illegalCmd => 1 | .notReady => 2 | .reinit => 3) ∧
    (statusWord e).toNat / 16384 = 0 ∧
    (statusWord e).toNat % 4 ≠ 3 ∧ (statusWord e).toNat / 16 % 8 ≤ 5 ∧ (statusWord e).toNat / 256 % 8 ≤ 6) ∧
  statusWord Engine.reset = 0

/-- A CSR read hands the caller the value of that moment, in every state, and changes no register, event or pending
command (10_state.md R33, R42). -/
def Obligations.CsrReadHasNoSideEffect : Prop :=
  ∀ (s : State) (n : Fin 16) (rest : List Turn), s.turns = .csrRead n :: rest →
    step s = .next { s with turns := rest, csrOut := s.csrOut ++ [⟨n, csrValue s.eng n⟩] }

/-- Reset, between any two steps and in every state, writes every field of the engine, makes no event and resets neither
the collaborator nor the clock (70_reset_and_hazards.md R165). The rest is the model's choice: the caller's commands, the
turns to come and the parameters stay (assumption log 13), and so do the CSR values handed over (assumption log 9). -/
def Obligations.ResetWritesEveryField : Prop :=
  ∀ (s : State) (rest : List Turn), s.turns = .reset :: rest →
    ∃ t, step s = .next t ∧
      t.eng.phase = .uninit ∧ t.eng.seq = .idle ∧ t.eng.fault = .none ∧ t.eng.resCode = .none ∧
      t.eng.sendId = 0x00000000 ∧ t.eng.replyId = 0x00000000 ∧ t.eng.reqAddr = 0x0000 ∧ t.eng.t0 = 0 ∧
      (∀ i : Fin 8, t.eng.rxBuf[i] = 0x00) ∧ t.eng.rxCount = 0 ∧
      t.eng.payValid = false ∧ t.eng.payLen = 0 ∧ (∀ i : Fin 6, t.eng.pay[i] = 0x00) ∧
      t.eng.decValid = false ∧ t.eng.decValue = 0x0000 ∧
      t.events = s.events ∧ t.script = s.script ∧ t.csrOut = s.csrOut ∧ t.issues = s.issues ∧
      t.params = s.params ∧ t.turns = rest

/-- After reset the engine is IDLE in phase UNINIT with no fault, accepts, and every CSR reads 0
(70_reset_and_hazards.md R166; 95_test_vectors.md L2.7.7). -/
def Obligations.ResetStateReadsZero : Prop :=
  State.reset.accepting ∧ State.reset.eng.phase = .uninit ∧ ∀ n, csrValue State.reset.eng n = 0

/-- No step changes a parameter of the run (10_state.md R40; the parameters stand in State by the model's choice,
assumption log 3). That the history and the CSR values handed to the caller are fields that every step only adds to, a
reset by the host too, is the model's choice (assumption log 9). -/
def Obligations.ParametersAndHistoryStay : Prop :=
  ∀ s t : State, step s = .next t →
    t.params = s.params ∧ (∃ new, t.events = s.events ++ new) ∧ ∃ new, t.csrOut = s.csrOut ++ new

/-! ### INIT -/

/-- INIT in phase UNINIT completes with the collaborator's start-up result, in every such state (40_init.md R90). It
takes one answer of `BusStart` and no other (how answers are held is assumption log 2). -/
def Obligations.InitPostsStartResult : Prop :=
  ∀ (s : State) (busAddr : Word) (cfg : BusCfg), s.accepting → s.eng.phase = .uninit →
    ∃ t, exec (.init busAddr cfg) s = .next t ∧
      (s.nextStart = true → t.eng.phase = .ready ∧ t.eng.resCode = .ok) ∧
      (s.nextStart = false → t.eng.phase = .failed ∧ t.eng.resCode = .initFailure) ∧
      t.eng.payValid = false ∧ t.eng.payLen = 0 ∧ (∀ i : Fin 6, t.eng.pay[i] = 0x00) ∧
      t.eng.fault = .none ∧ t.eng.seq = .idle ∧
      t.events = s.events ++ [.busConfigure cfg, .busStart s.nextStart] ∧
      t.script = { s.script with start := answersAfter s.script.start 1 }

/-- 40_init.md R91: the identifiers are the bases plus `bus_addr` modulo 2^32, for every 32-bit `bus_addr`. -/
def Obligations.IdentifierMapperAddsModulo : Prop :=
  ∀ (s : State) (busAddr : Word) (cfg : BusCfg), s.accepting → s.eng.phase = .uninit →
    ∃ t, exec (.init busAddr cfg) s = .next t ∧
      t.eng.sendId.toNat = (0x000C0300 + busAddr.toNat) % 2 ^ 32 ∧
      t.eng.replyId.toNat = (0x000C0200 + busAddr.toNat) % 2 ^ 32

/-- 40_init.md R92: INIT leaves the identifiers 0x100 apart whatever `bus_addr` is, and after it no step but a reset
changes them. -/
def Obligations.IdentifiersFixedAfterInit : Prop :=
  (∀ (s t : State) (busAddr : Word) (cfg : BusCfg), s.eng.phase = .uninit →
    exec (.init busAddr cfg) s = .next t → t.eng.sendId - t.eng.replyId = 0x00000100) ∧
  (∀ s t : State, s.eng.phase ≠ .uninit → step s = .next t → (∀ rest, s.turns ≠ .reset :: rest) →
    t.eng.sendId = s.eng.sendId ∧ t.eng.replyId = s.eng.replyId)

/-- 10_state.md R23: only INIT writes `phase`, only from UNINIT, and by the start-up result; READY and FAILED last until
reset, which makes it UNINIT. -/
def Obligations.PhaseChangesOnlyByInitOrReset : Prop :=
  ∀ s t : State, step s = .next t → t.eng.phase ≠ s.eng.phase →
    (∃ rest, s.turns = .reset :: rest ∧ t.eng.phase = .uninit) ∨
    (s.eng.phase = .uninit ∧ (∃ q qs a c, s.issues = q :: qs ∧ decode q = .ok (.init a c)) ∧
      t.eng.phase = if s.nextStart then .ready else .failed)

/-- A command out of its phase raises its fault and nothing else, whatever its operands are (60_exceptions.md R142,
R144): INIT outside UNINIT, WRITE and READ outside READY. -/
def Obligations.OutOfPhaseCommandOnlyFaults : Prop :=
  ∀ s : State, s.accepting →
    (s.eng.phase ≠ .uninit →
      ∀ a c, exec (.init a c) s = .next { s with eng := { s.eng with fault := .reinit } }) ∧
    (s.eng.phase ≠ .ready →
      (∀ a n p, exec (.write a n p) s = .next { s with eng := { s.eng with fault := .notReady } }) ∧
      (∀ a, exec (.read a) s = .next { s with eng := { s.eng with fault := .notReady } }))

/-- The frame of INIT (40_init.md R90): the registers it does not write, the other agents' data but the start-up answer,
and none of the events it adds to the history is a transmitted frame. -/
def Obligations.InitLeavesTheRest : Prop :=
  ∀ (s t : State) (a : Word) (c : BusCfg), exec (.init a c) s = .next t →
    t.eng = { s.eng with
      phase := t.eng.phase, sendId := t.eng.sendId, replyId := t.eng.replyId, resCode := t.eng.resCode
      payValid := t.eng.payValid, payLen := t.eng.payLen, pay := t.eng.pay, fault := t.eng.fault } ∧
    t.params = s.params ∧ t.turns = s.turns ∧ t.issues = s.issues ∧ t.csrOut = s.csrOut ∧
    t.script = { s.script with start := t.script.start } ∧
    ∃ new, t.events = s.events ++ new ∧ ∀ e ∈ new, e.isFrame = false

/-! ### WRITE -/

/-- 41_write.md R103: a WRITE of at most 6 bytes emits exactly one frame with body [low(addr), high(addr)] ++ payload,
and no other frame. It goes to `send_id`, posts OK, and changes nothing else. -/
def Obligations.WriteEmitsExactlyOneFrame : Prop :=
  ∀ (s : State) (addr : RegAddr) (n : BitVec 4) (p : Payload), s.accepting → s.eng.phase = .ready → n.toNat ≤ 6 →
    ∃ f : Frame,
      exec (.write addr n p) s = .next { s with
        eng := { s.eng with resCode := .ok }, events := s.events ++ [.txFrame f] } ∧
      f.id = s.eng.sendId ∧ f.body.length = 2 + n.toNat ∧
      f.body[0]? = some (addr.setWidth 8) ∧ f.body[1]? = some ((addr >>> 8).setWidth 8) ∧
      ∀ i, i < n.toNat → f.body[2 + i]? = some ((p >>> (8 * i)).setWidth 8)

/-- 41_write.md R102: a payload longer than 6 bytes is rejected and not truncated: no frame, INVALID_ARGUMENT, nothing
else; and in a frame that a WRITE does send, the first two bytes are the address whatever the payload is. -/
def Obligations.OverlongWriteIsRejected : Prop :=
  ∀ (s : State) (addr : RegAddr) (n : BitVec 4) (p : Payload), s.accepting → s.eng.phase = .ready →
    (6 < n.toNat → exec (.write addr n p) s = .next { s with eng := { s.eng with resCode := .invalidArgument } }) ∧
    ∀ t f, exec (.write addr n p) s = .next t → t.events = s.events ++ [.txFrame f] →
      f.body[0]? = some (addr.setWidth 8) ∧ f.body[1]? = some ((addr >>> 8).setWidth 8)

/-- Payload bytes at index ≥ n are ignored (30_encoding.md R76): two payloads that agree on their first n bytes give the
same outcome, in every state. -/
def Obligations.UnsentPayloadBytesPlayNoPart : Prop :=
  ∀ (s : State) (addr : RegAddr) (n : BitVec 4) (p p' : Payload),
    (∀ i, i < n.toNat → (p >>> (8 * i)).setWidth 8 = (p' >>> (8 * i)).setWidth 8) →
    exec (.write addr n p) s = exec (.write addr n p') s

/-- The frame of WRITE (41_write.md R101): only `res_code` (or `fault`) and the history change; it reads no answer. -/
def Obligations.WriteLeavesTheRest : Prop :=
  ∀ (s t : State) (a : RegAddr) (n : BitVec 4) (p : Payload), exec (.write a n p) s = .next t →
    t = { s with
      eng := { s.eng with resCode := t.eng.resCode, fault := t.eng.fault }
      events := t.events }

/-! ### READ -/

/-- The acceptance of READ in phase READY (42_read.md R110, R111): the request first, then one clock read into `t0`, then
AWAITING_REPLY. It completes in every such state, and takes one answer of the clock and no other (how answers are held is
assumption log 2). -/
def Obligations.ReadSendsRequestThenStartsTimer : Prop :=
  ∀ (s : State) (addr : RegAddr), s.accepting → s.eng.phase = .ready →
    ∃ t, exec (.read addr) s = .next t ∧
      t.eng = { s.eng with reqAddr := addr, t0 := s.nextClock, seq := .awaitingReply } ∧
      s.nextClock < 2 ^ s.params.clockW ∧
      t.events = s.events ++
        [.txFrame ⟨s.eng.sendId, .extendedData, [addr.setWidth 8, (addr >>> 8).setWidth 8]⟩,
         .clockRead s.nextClock] ∧
      t.script = { s.script with clock := answersAfter s.script.clock 1 }

/-- A READ request and a WRITE of no bytes to the same address send the same frame (30_encoding.md R83). -/
def Obligations.EmptyWriteSendsReadRequest : Prop :=
  ∀ (s : State) (addr : RegAddr) (p : Payload), s.accepting → s.eng.phase = .ready →
    ∃ t u f v, exec (.write addr 0 p) s = .next t ∧ exec (.read addr) s = .next u ∧
      t.events = s.events ++ [.txFrame f] ∧ u.events = s.events ++ [.txFrame f, .clockRead v]

/-- The frame of the acceptance of READ (42_read.md R110): only `req_addr`, `t0` and `state` (or `fault`), the history and
the clock's answers change. -/
def Obligations.ReadLeavesTheRest : Prop :=
  ∀ (s t : State) (a : RegAddr), exec (.read a) s = .next t →
    t = { s with
      eng := { s.eng with reqAddr := t.eng.reqAddr, t0 := t.eng.t0, seq := t.eng.seq, fault := t.eng.fault }
      script := { s.script with clock := t.script.clock }
      events := t.events }

/-- A poll step whose clock read shows the window elapsed posts TIMEOUT with no payload and does not poll, even if a
frame waits (42_read.md R112, R113; 60_exceptions.md R144). It takes one answer of the clock and no other (how answers are
held is assumption log 2). The premise on `t0` is part of the invariant. -/
def Obligations.ElapsedWindowPostsTimeout : Prop :=
  ∀ (s : State) (rest : List Turn), s.engineMoves rest → s.polling → s.eng.t0 < 2 ^ s.params.clockW →
    ¬ s.windowOpen →
    ∃ t, step s = .next t ∧
      t.eng = { s.eng with
        seq := .idle, resCode := .timeout, payValid := false, payLen := 0, pay := #v[0, 0, 0, 0, 0, 0] } ∧
      t.events = s.events ++ [.clockRead s.nextClock] ∧
      t.script = { s.script with clock := answersAfter s.script.clock 1 }

/-- A poll step inside the window that finds no frame writes no register: the READ goes on (42_read.md R112). It takes one
answer of the clock and one of `BusPoll`, and no other (how answers are held is assumption log 2). -/
def Obligations.EmptyPollKeepsWaiting : Prop :=
  ∀ (s : State) (rest : List Turn), s.engineMoves rest → s.polling → s.eng.t0 < 2 ^ s.params.clockW →
    s.windowOpen → s.nextPoll = false →
    ∃ t, step s = .next t ∧ t.eng = s.eng ∧
      t.events = s.events ++ [.clockRead s.nextClock, .busPoll false] ∧
      t.script = { s.script with
        clock := answersAfter s.script.clock 1, poll := answersAfter s.script.poll 1 }

/-- A frame inside the window whose first two bytes echo `req_addr` ends the READ with OK (42_read.md R112 to R116): k
bytes are read, k the reported count clamped to 0..8; the bytes after the echo are the payload, in order; the rest of
the payload and of the receive buffer is 0x00. The step takes one answer each of the clock, `BusPoll` and `BusAvail`, and k
of `BusReadByte` (how answers are held is assumption log 2). -/
def Obligations.MatchingEchoDeliversPayload : Prop :=
  ∀ (s : State) (rest : List Turn) (k : Nat), s.engineMoves rest → s.polling →
    s.eng.t0 < 2 ^ s.params.clockW → s.windowOpen → s.nextPoll = true →
    (k : Int) = min (max s.nextAvail 0) 8 → 2 ≤ k →
    (s.nextBytes k)[0]? = some (s.eng.reqAddr.setWidth 8) →
    (s.nextBytes k)[1]? = some ((s.eng.reqAddr >>> 8).setWidth 8) →
    ∃ t, step s = .next t ∧ t.eng.seq = .idle ∧ t.eng.resCode = .ok ∧ t.eng.payValid = true ∧
      t.eng.payLen.val = k - 2 ∧
      (∀ i : Fin 6, t.eng.pay[i] = if i.val < k - 2 then (s.nextBytes k).getD (i.val + 2) 0 else 0x00) ∧
      t.eng.rxCount.val = k ∧
      (∀ i : Fin 8, t.eng.rxBuf[i] = if i.val < k then (s.nextBytes k).getD i.val 0 else 0x00) ∧
      t.events = s.events ++ [.clockRead s.nextClock, .busPoll true, .busAvail s.nextAvail] ++
        (s.nextBytes k).map .busReadByte ∧
      t.script = { s.script with
        clock := answersAfter s.script.clock 1, poll := answersAfter s.script.poll 1
        avail := answersAfter s.script.avail 1, byte := answersAfter s.script.byte k }

/-- Every other frame inside the window ends the READ with ECHO_MISMATCH and no payload, a frame of fewer than 2 bytes
too; the bytes stay in the receive buffer (42_read.md R112, R114, R115, R119, R121). It takes the same answers as a matching
frame of k bytes (assumption log 2). -/
def Obligations.OtherFrameEndsInMismatch : Prop :=
  ∀ (s : State) (rest : List Turn) (k : Nat), s.engineMoves rest → s.polling →
    s.eng.t0 < 2 ^ s.params.clockW → s.windowOpen → s.nextPoll = true →
    (k : Int) = min (max s.nextAvail 0) 8 →
    ¬ (2 ≤ k ∧ (s.nextBytes k)[0]? = some (s.eng.reqAddr.setWidth 8) ∧
      (s.nextBytes k)[1]? = some ((s.eng.reqAddr >>> 8).setWidth 8)) →
    ∃ t, step s = .next t ∧ t.eng.seq = .idle ∧ t.eng.resCode = .echoMismatch ∧ t.eng.payValid = false ∧
      t.eng.payLen = 0 ∧ (∀ i : Fin 6, t.eng.pay[i] = 0x00) ∧
      t.eng.rxCount.val = k ∧
      (∀ i : Fin 8, t.eng.rxBuf[i] = if i.val < k then (s.nextBytes k).getD i.val 0 else 0x00) ∧
      t.events = s.events ++ [.clockRead s.nextClock, .busPoll true, .busAvail s.nextAvail] ++
        (s.nextBytes k).map .busReadByte ∧
      t.script = { s.script with
        clock := answersAfter s.script.clock 1, poll := answersAfter s.script.poll 1
        avail := answersAfter s.script.avail 1, byte := answersAfter s.script.byte k }

/-- The environment's answers come in the order given, one after the other, and taking some leaves the later ones; the
bytes a drain takes are the next ones (00_scope.md R13, 10_state.md R36; how answers are held is assumption log 2). -/
def Obligations.AnswersComeInOrder : Prop :=
  (∀ (α : Type) (a : Answers α) (free : Nat → α) (k i : Nat),
    answerAt (answersAfter a k) free i = answerAt a free (k + i) ∧
    ∀ x, a.given[i]? = some x → answerAt a free i = x) ∧
  ∀ (s : State) (k : Nat), (s.nextBytes k).length = k ∧
    ∀ (bs more : List Byte), s.script.byte.given = bs ++ more → bs.length = k → s.nextBytes k = bs

/-- The elapsed time is true across a wrap of the clock: after d ticks it is d, for every d below 2^CLOCK_W (42_read.md
R113). -/
def Obligations.ElapsedIsTrueAcrossWrap : Prop :=
  ∀ clockW t0 d : Nat, t0 < 2 ^ clockW → d < 2 ^ clockW → elapsed clockW ((t0 + d) % 2 ^ clockW) t0 = d

/-- TIMEOUT is posted only by a poll step whose clock read shows the window elapsed (42_read.md R113,
70_reset_and_hazards.md R179): a step after which `res_code` is TIMEOUT, and before which it was not or by which a READ
returned, is such a poll step. The premise on `t0` is part of the invariant. -/
def Obligations.TimeoutIsNeverEarly : Prop :=
  ∀ s t : State, s.eng.t0 < 2 ^ s.params.clockW → step s = .next t →
    t.eng.resCode = .timeout →
    (s.eng.resCode ≠ .timeout ∨ (s.eng.seq = .awaitingReply ∧ t.eng.seq = .idle)) →
    s.polling ∧ ¬ s.windowOpen

/-- Once a clock read to come shows the window elapsed, the READ returns, at the latest with that poll step, if the
engine has every turn until then. The premise on the clock is the spec's fairness assumption (70_reset_and_hazards.md
R180), made a bound: the n-th answer to come (counting from 0) is past the window. The statement rests on the model's
premise that every call of the collaborator and of the clock returns (assumption log 12, DEDUCED and unsafe). -/
def Obligations.ReadReturnsOnceWindowCloses : Prop :=
  ∀ (n : Nat) (s : State), s.polling → s.turns = [] → s.eng.t0 < 2 ^ s.params.clockW →
    s.params.timeoutTicks ≤
      (answerAt s.script.clock Config.freeClock n % 2 ^ s.params.clockW + 2 ^ s.params.clockW - s.eng.t0)
        % 2 ^ s.params.clockW →
    ∃ (k : Nat) (t : State), k ≤ n + 1 ∧ Core.run Sys2Proof.core k s = .next t ∧ t.eng.seq = .idle ∧
      (t.eng.resCode = .ok ∨ t.eng.resCode = .timeout ∨ t.eng.resCode = .echoMismatch)

/-- No identifier takes part in the judging of a reply (42_read.md R118): with another `reply_id` and another `send_id`
the poll step does the same. -/
def Obligations.IdentifiersPlayNoPartInPolling : Prop :=
  ∀ (s : State) (rest : List Turn) (x y : Word), s.engineMoves rest → s.polling →
    ∃ t, step s = .next t ∧
      step { s with eng := { s.eng with replyId := x, sendId := y } } =
        .next { t with eng := { t.eng with replyId := x, sendId := y } }

/-! ### DECODE -/

/-- 43_decode.md R131, R132: DECODE of a valid payload of one byte gives that byte, of two bytes byte[1] << 8 | byte[0],
unsigned, in every phase, and posts OK. -/
def Obligations.DecodeGivesLittleEndianValue : Prop :=
  ∀ s : State, s.accepting → s.eng.payValid = true → (s.eng.payLen = 1 ∨ s.eng.payLen = 2) →
    ∃ v : BitVec 16,
      exec .decode s = .next { s with
        eng := { s.eng with decValid := true, decValue := v, resCode := .ok } } ∧
      (s.eng.payLen = 1 → v.toNat = s.eng.pay[0].toNat) ∧
      (s.eng.payLen = 2 → v.toNat = 256 * s.eng.pay[1].toNat + s.eng.pay[0].toNat)

/-- DECODE without a valid payload of 1 or 2 bytes posts INVALID_ARGUMENT and shows no value, in every phase
(43_decode.md R130). -/
def Obligations.DecodeWithoutPayloadIsRefused : Prop :=
  ∀ s : State, s.accepting → ¬ (s.eng.payValid = true ∧ (s.eng.payLen = 1 ∨ s.eng.payLen = 2)) →
    exec .decode s = .next { s with
      eng := { s.eng with decValid := false, decValue := 0x0000, resCode := .invalidArgument } }

/-- DECODE can be repeated and gives the same (43_decode.md R130). -/
def Obligations.DecodeRepeats : Prop :=
  ∀ s t : State, exec .decode s = .next t → exec .decode t = .next t

/-- The frame of DECODE (43_decode.md R130): only `dec_valid`, `dec_value` and `res_code` change; no event, no answer
read. -/
def Obligations.DecodeLeavesTheRest : Prop :=
  ∀ s t : State, exec .decode s = .next t →
    t = { s with eng := { s.eng with
      decValid := t.eng.decValid, decValue := t.eng.decValue, resCode := t.eng.resCode } }

/-! ### The whole machine -/

/-- The invariant of Safety holds at reset. -/
def Obligations.ResetMeetsInvariant : Prop := State.reset.Inv

/-- Every step keeps the invariant of Safety: the payload shown is what followed the echo in the last frame, no value
stands after a failure, the identifiers stay 0x100 apart, every frame sent has 2 to 8 bytes, and the rest of it. -/
def Obligations.StepKeepsInvariant : Prop := ∀ s t : State, s.Inv → step s = .next t → t.Inv

/-- The engine transmits only when it accepts a WRITE or a READ in phase READY, at most one frame a step, on its own
`send_id`, with the address first; and it looks at the receive side only while a READ is outstanding (20_memory.md R63,
41_write.md R100, 42_read.md R112, R120). -/
def Obligations.FramesOnlyAtAcceptance : Prop :=
  ∀ s t : State, step s = .next t →
    ∃ new, t.events = s.events ++ new ∧ (new.filter Event.isFrame).length ≤ 1 ∧
      (∀ f, .txFrame f ∈ new →
        s.accepting ∧ s.eng.phase = .ready ∧ f.id = s.eng.sendId ∧ 2 ≤ f.body.length ∧ f.body.length ≤ 8 ∧
        ∃ q qs addr, s.issues = q :: qs ∧ (decode q = .ok (.read addr) ∨ ∃ n p, decode q = .ok (.write addr n p)) ∧
          f.body[0]? = some (addr.setWidth 8) ∧ f.body[1]? = some ((addr >>> 8).setWidth 8)) ∧
      ((∃ e ∈ new, e.isReceive = true) → s.polling)

/-- The faults and result codes each command can give (60_exceptions.md R143), and those of the poll step. -/
def Obligations.OutcomesByCommand : Prop :=
  (∀ (s t : State) (rest : List Turn) (q : Issue) (qs : List Issue),
    s.engineMoves rest → s.accepting → s.issues = q :: qs → step s = .next t →
    match decode q with
    | .error _ => t.eng.fault = .illegalCmd ∧ t.eng.resCode = s.eng.resCode
    | .ok (.init _ _) =>
      (t.eng.fault = .reinit ∧ t.eng.resCode = s.eng.resCode) ∨
      (t.eng.fault = .none ∧ (t.eng.resCode = .initFailure ∨ t.eng.resCode = .ok))
    | .ok (.write _ _ _) =>
      (t.eng.fault = .notReady ∧ t.eng.resCode = s.eng.resCode) ∨
      (t.eng.fault = .none ∧ (t.eng.resCode = .invalidArgument ∨ t.eng.resCode = .ok))
    | .ok (.read _) =>
      (t.eng.fault = .notReady ∧ t.eng.resCode = s.eng.resCode ∧ t.eng.seq = .idle) ∨
      (t.eng.fault = .none ∧ t.eng.resCode = s.eng.resCode ∧ t.eng.seq = .awaitingReply)
    | .ok .decode =>
      t.eng.fault = .none ∧ (t.eng.resCode = .invalidArgument ∨ t.eng.resCode = .ok)) ∧
  (∀ (s t : State) (rest : List Turn), s.engineMoves rest → s.polling → step s = .next t →
    t.eng.fault = .none ∧
    ((t.eng.seq = .awaitingReply ∧ t.eng.resCode = s.eng.resCode) ∨
     (t.eng.seq = .idle ∧
       (t.eng.resCode = .ok ∨ t.eng.resCode = .timeout ∨ t.eng.resCode = .echoMismatch))))

/-- A transmitted frame stands for one unbroken sequence of calls: begin with its identifier, its bytes with byte 0
first, end (41_write.md R100). -/
def Obligations.FrameIsOneCallSequence : Prop :=
  ∀ f : Frame,
    (eventCalls (.txFrame f)).length = f.body.length + 2 ∧
    (eventCalls (.txFrame f)).head? = some (.busBeginFrame f.id) ∧
    (eventCalls (.txFrame f)).getLast? = some .busEndFrame ∧
    ∀ (i : Nat) (h : i < f.body.length), (eventCalls (.txFrame f))[i + 1]? = some (.busWriteByte f.body[i])
end

