-- ==== Sys2Proof/Laws/Decode.lean ====
section
/-! SUPPORT. The fields of an encoded command word (30_encoding.md R71). -/

namespace Sys2Proof

variable (addr : RegAddr) (len : BitVec 4) (op : BitVec 3)

theorem fieldOp_cmdWord : fieldOp (cmdWord addr len op) = op := by
  unfold fieldOp cmdWord
  ext i hi
  simp only [BitVec.getElem_extractLsb', BitVec.getLsbD_append]
  simp [hi]

theorem fieldLen_cmdWord : fieldLen (cmdWord addr len op) = len := by
  unfold fieldLen cmdWord
  ext i hi
  simp only [BitVec.getElem_extractLsb', BitVec.getLsbD_append]
  simp [hi]

theorem fieldRsv0_cmdWord : fieldRsv0 (cmdWord addr len op) = 0 := by
  unfold fieldRsv0 cmdWord
  ext i hi
  obtain rfl : i = 0 := by omega
  simp only [BitVec.getElem_extractLsb', BitVec.getLsbD_append]
  simp

theorem fieldAddr_cmdWord : fieldAddr (cmdWord addr len op) = addr := by
  unfold fieldAddr cmdWord
  ext i hi
  simp only [BitVec.getElem_extractLsb', BitVec.getLsbD_append]
  have h : 8 + i - 3 - 4 - 1 = i := by omega
  simp [show ¬ 8 + i < 3 by omega, show ¬ 8 + i - 3 < 4 by omega, show 8 + i - 3 - 4 ≠ 0 by omega, h, hi]

theorem fieldRsv1_cmdWord : fieldRsv1 (cmdWord addr len op) = 0 := by
  unfold fieldRsv1 cmdWord
  ext i hi
  simp only [BitVec.getElem_extractLsb', BitVec.getLsbD_append]
  simp [show ¬ 24 + i < 3 by omega, show ¬ 24 + i - 3 < 4 by omega, show ¬ 24 + i - 3 - 4 < 1 by omega,
    show ¬ 24 + i - 3 - 4 - 1 < 16 by omega]

/-! ### The fields of any word, as bits and as numbers -/

theorem cmd_eq_fields (w : Word) :
    w = fieldRsv1 w ++ fieldAddr w ++ fieldRsv0 w ++ fieldLen w ++ fieldOp w := by
  apply BitVec.eq_of_getLsbD_eq
  intro i hi
  simp only [BitVec.getLsbD_append, fieldRsv1, fieldAddr, fieldRsv0, fieldLen, fieldOp,
    BitVec.getLsbD_extractLsb']
  split_ifs <;> rw [decide_eq_true (by omega), Bool.true_and] <;> congr 1 <;> omega

theorem fieldOp_toNat (w : Word) : (fieldOp w).toNat = w.toNat % 8 := by simp [fieldOp]

theorem fieldLen_toNat (w : Word) : (fieldLen w).toNat = w.toNat / 8 % 16 := by
  simp [fieldLen, Nat.shiftRight_eq_div_pow]

theorem fieldRsv0_toNat (w : Word) : (fieldRsv0 w).toNat = w.toNat / 128 % 2 := by
  simp [fieldRsv0, Nat.shiftRight_eq_div_pow]

theorem fieldAddr_toNat (w : Word) : (fieldAddr w).toNat = w.toNat / 256 % 65536 := by
  simp [fieldAddr, Nat.shiftRight_eq_div_pow]

theorem fieldRsv1_toNat (w : Word) : (fieldRsv1 w).toNat = w.toNat / 16777216 := by
  have := w.isLt
  simp only [fieldRsv1, BitVec.extractLsb'_toNat, Nat.shiftRight_eq_div_pow]
  omega

end Sys2Proof
end

