-- ==== Sys2Proof/Laws/Flags.lean ====
section
/-! SUPPORT. The status word and the data operations of Machine/Operands.lean, as numbers and as shifts. -/

namespace Sys2Proof.Machine

/-- Two fields side by side, as a number. -/
theorem append_toNat {m n : Nat} (x : BitVec m) (y : BitVec n) :
    (x ++ y).toNat = x.toNat * 2 ^ n + y.toNat := by
  rw [BitVec.toNat_append, ← Nat.shiftLeft_add_eq_or_of_lt y.isLt, Nat.shiftLeft_eq]

/-- A field above another that it does not overlap: or is addition. -/
theorem shiftLeft_or_toNat {x y k : Nat} (h : y < 2 ^ k) : x <<< k ||| y = x * 2 ^ k + y := by
  rw [← Nat.shiftLeft_add_eq_or_of_lt h, Nat.shiftLeft_eq]

/-- STATUS as the sum of its fields at their places (10_state.md R34). -/
theorem statusWord_toNat (e : Engine) :
    (statusWord e).toNat = (phaseCode e.phase).toNat + 4 * (busyBit e.seq).toNat +
      16 * (resCodeBits e.resCode).toNat + 128 * e.payValid.toNat + 256 * e.payLen.val +
      2048 * e.decValid.toNat + 4096 * (faultBits e.fault).toNat := by
  have h : (statusWord e).toNat =
      (0#18 ++ faultBits e.fault ++ BitVec.ofBool e.decValid ++ BitVec.ofNat 3 e.payLen.val ++
        BitVec.ofBool e.payValid ++ resCodeBits e.resCode ++ 0#1 ++ busyBit e.seq ++
        phaseCode e.phase).toNat := rfl
  have hl : (BitVec.ofNat 3 e.payLen.val).toNat = e.payLen.val := by
    have := e.payLen.isLt
    rw [BitVec.toNat_ofNat]
    omega
  rw [h]
  simp only [append_toNat, hl, BitVec.toNat_ofBool]
  rw [BitVec.toNat_ofNat, BitVec.toNat_ofNat]
  omega

theorem lowByte_eq (a : RegAddr) : lowByte a = a.setWidth 8 := by
  apply BitVec.eq_of_toNat_eq
  simp [lowByte]

theorem highByte_eq (a : RegAddr) : highByte a = (a >>> 8).setWidth 8 := by
  apply BitVec.eq_of_toNat_eq
  simp [highByte]

theorem payloadByte_eq (p : Payload) (i : Nat) : payloadByte p i = (p >>> (8 * i)).setWidth 8 := by
  apply BitVec.eq_of_toNat_eq
  simp [payloadByte]

theorem payloadBytes_length (p : Payload) (n : Nat) : (payloadBytes p n).length = n := by
  simp [payloadBytes]

theorem clampCount_val {n : Int} {k : Nat} (h : (k : Int) = min (max n 0) 8) : (clampCount n).val = k := by
  simp only [clampCount]
  omega

/-- A byte of the receive buffer after a drain; past the bytes read it is 0x00 (42_read.md R114). -/
theorem rxOf_get (bs : List Byte) (i : Fin 8) : (rxOf bs)[i] = bs.getD i.val 0 := by
  rcases i with ⟨i, hi⟩
  interval_cases i <;> rfl

theorem payOf_get (rx : Vector Byte 8) (k : Fin 9) (i : Fin 6) : (payOf rx k)[i] = payByteOf rx k i := by
  rcases i with ⟨i, hi⟩
  interval_cases i <;> rfl

/-- Elapsed time as a natural number, when `t0` is a CLOCK_W-bit value (42_read.md R113). -/
theorem elapsed_eq {clockW now t0 : Nat} (h : t0 < 2 ^ clockW) :
    elapsed clockW now t0 = (now + 2 ^ clockW - t0) % 2 ^ clockW := by
  have e : (now : Int) - t0 = ((now + 2 ^ clockW - t0 : Nat) : Int) - (2 ^ clockW : Int) := by
    rw [Nat.cast_sub (by omega)]
    push_cast
    ring
  have h2 : ((2 : Int) ^ clockW) = ((2 ^ clockW : Nat) : Int) := by push_cast; rfl
  rw [elapsed, e, h2, Int.sub_emod_right, ← Int.natCast_mod, Int.toNat_natCast]

end Sys2Proof.Machine
end

