-- ==== Sys2Proof/Laws/State.lean ====
section
/-! SUPPORT. One lemma per field of State per update of Machine/Ops.lean and of the families, so that no later proof
unfolds a record update; and what the next answers are after an update that takes none of them. -/

namespace Sys2Proof.Machine

/-! ### record -/

@[simp] theorem State.record_eng (s : State) (e : Event) : (s.record e).eng = s.eng := rfl
@[simp] theorem State.record_params (s : State) (e : Event) : (s.record e).params = s.params := rfl
@[simp] theorem State.record_turns (s : State) (e : Event) : (s.record e).turns = s.turns := rfl
@[simp] theorem State.record_issues (s : State) (e : Event) : (s.record e).issues = s.issues := rfl
@[simp] theorem State.record_script (s : State) (e : Event) : (s.record e).script = s.script := rfl
@[simp] theorem State.record_events (s : State) (e : Event) : (s.record e).events = s.events ++ [e] := rfl
@[simp] theorem State.record_csrOut (s : State) (e : Event) : (s.record e).csrOut = s.csrOut := rfl

/-! ### busConfigure -/

@[simp] theorem State.busConfigure_eng (s : State) (c : BusCfg) : (s.busConfigure c).eng = s.eng := rfl
@[simp] theorem State.busConfigure_params (s : State) (c : BusCfg) : (s.busConfigure c).params = s.params := rfl
@[simp] theorem State.busConfigure_turns (s : State) (c : BusCfg) : (s.busConfigure c).turns = s.turns := rfl
@[simp] theorem State.busConfigure_issues (s : State) (c : BusCfg) : (s.busConfigure c).issues = s.issues := rfl
@[simp] theorem State.busConfigure_script (s : State) (c : BusCfg) : (s.busConfigure c).script = s.script := rfl
@[simp] theorem State.busConfigure_events (s : State) (c : BusCfg) :
    (s.busConfigure c).events = s.events ++ [.busConfigure c] := rfl
@[simp] theorem State.busConfigure_csrOut (s : State) (c : BusCfg) : (s.busConfigure c).csrOut = s.csrOut := rfl

/-! ### busStart -/

@[simp] theorem State.busStart_eng (s : State) : (s.busStart).eng = s.eng := rfl
@[simp] theorem State.busStart_params (s : State) : (s.busStart).params = s.params := rfl
@[simp] theorem State.busStart_turns (s : State) : (s.busStart).turns = s.turns := rfl
@[simp] theorem State.busStart_issues (s : State) : (s.busStart).issues = s.issues := rfl
@[simp] theorem State.busStart_script (s : State) :
    (s.busStart).script = { s.script with start := answersAfter s.script.start 1 } := rfl
@[simp] theorem State.busStart_events (s : State) :
    (s.busStart).events = s.events ++ [.busStart s.nextStart] := rfl
@[simp] theorem State.busStart_csrOut (s : State) : (s.busStart).csrOut = s.csrOut := rfl

/-! ### txFrame -/

@[simp] theorem State.txFrame_eng (s : State) (a : RegAddr) (p : List Byte) : (s.txFrame a p).eng = s.eng := rfl
@[simp] theorem State.txFrame_params (s : State) (a : RegAddr) (p : List Byte) :
    (s.txFrame a p).params = s.params := rfl
@[simp] theorem State.txFrame_turns (s : State) (a : RegAddr) (p : List Byte) :
    (s.txFrame a p).turns = s.turns := rfl
@[simp] theorem State.txFrame_issues (s : State) (a : RegAddr) (p : List Byte) :
    (s.txFrame a p).issues = s.issues := rfl
@[simp] theorem State.txFrame_script (s : State) (a : RegAddr) (p : List Byte) :
    (s.txFrame a p).script = s.script := rfl
@[simp] theorem State.txFrame_events (s : State) (a : RegAddr) (p : List Byte) :
    (s.txFrame a p).events = s.events ++ [.txFrame (addressedFrame s.eng.sendId a p)] := rfl
@[simp] theorem State.txFrame_csrOut (s : State) (a : RegAddr) (p : List Byte) :
    (s.txFrame a p).csrOut = s.csrOut := rfl

/-! ### clockRead -/

@[simp] theorem State.clockRead_eng (s : State) : (s.clockRead).eng = s.eng := rfl
@[simp] theorem State.clockRead_params (s : State) : (s.clockRead).params = s.params := rfl
@[simp] theorem State.clockRead_turns (s : State) : (s.clockRead).turns = s.turns := rfl
@[simp] theorem State.clockRead_issues (s : State) : (s.clockRead).issues = s.issues := rfl
@[simp] theorem State.clockRead_script (s : State) :
    (s.clockRead).script = { s.script with clock := answersAfter s.script.clock 1 } := rfl
@[simp] theorem State.clockRead_events (s : State) :
    (s.clockRead).events = s.events ++ [.clockRead s.nextClock] := rfl
@[simp] theorem State.clockRead_csrOut (s : State) : (s.clockRead).csrOut = s.csrOut := rfl

/-! ### busPoll -/

@[simp] theorem State.busPoll_eng (s : State) : (s.busPoll).eng = s.eng := rfl
@[simp] theorem State.busPoll_params (s : State) : (s.busPoll).params = s.params := rfl
@[simp] theorem State.busPoll_turns (s : State) : (s.busPoll).turns = s.turns := rfl
@[simp] theorem State.busPoll_issues (s : State) : (s.busPoll).issues = s.issues := rfl
@[simp] theorem State.busPoll_script (s : State) :
    (s.busPoll).script = { s.script with poll := answersAfter s.script.poll 1 } := rfl
@[simp] theorem State.busPoll_events (s : State) : (s.busPoll).events = s.events ++ [.busPoll s.nextPoll] := rfl
@[simp] theorem State.busPoll_csrOut (s : State) : (s.busPoll).csrOut = s.csrOut := rfl

/-! ### busAvail -/

@[simp] theorem State.busAvail_eng (s : State) : (s.busAvail).eng = s.eng := rfl
@[simp] theorem State.busAvail_params (s : State) : (s.busAvail).params = s.params := rfl
@[simp] theorem State.busAvail_turns (s : State) : (s.busAvail).turns = s.turns := rfl
@[simp] theorem State.busAvail_issues (s : State) : (s.busAvail).issues = s.issues := rfl
@[simp] theorem State.busAvail_script (s : State) :
    (s.busAvail).script = { s.script with avail := answersAfter s.script.avail 1 } := rfl
@[simp] theorem State.busAvail_events (s : State) :
    (s.busAvail).events = s.events ++ [.busAvail s.nextAvail] := rfl
@[simp] theorem State.busAvail_csrOut (s : State) : (s.busAvail).csrOut = s.csrOut := rfl

/-! ### busReadBytes -/

@[simp] theorem State.busReadBytes_eng (s : State) (k : Nat) : (s.busReadBytes k).eng = s.eng := rfl
@[simp] theorem State.busReadBytes_params (s : State) (k : Nat) : (s.busReadBytes k).params = s.params := rfl
@[simp] theorem State.busReadBytes_turns (s : State) (k : Nat) : (s.busReadBytes k).turns = s.turns := rfl
@[simp] theorem State.busReadBytes_issues (s : State) (k : Nat) : (s.busReadBytes k).issues = s.issues := rfl
@[simp] theorem State.busReadBytes_script (s : State) (k : Nat) :
    (s.busReadBytes k).script = { s.script with byte := answersAfter s.script.byte k } := rfl
@[simp] theorem State.busReadBytes_events (s : State) (k : Nat) :
    (s.busReadBytes k).events = s.events ++ (s.nextBytes k).map .busReadByte := rfl
@[simp] theorem State.busReadBytes_csrOut (s : State) (k : Nat) : (s.busReadBytes k).csrOut = s.csrOut := rfl

/-! ### post -/

@[simp] theorem State.post_eng (s : State) (c : ResCode) : (s.post c).eng = { s.eng with resCode := c } := rfl
@[simp] theorem State.post_params (s : State) (c : ResCode) : (s.post c).params = s.params := rfl
@[simp] theorem State.post_turns (s : State) (c : ResCode) : (s.post c).turns = s.turns := rfl
@[simp] theorem State.post_issues (s : State) (c : ResCode) : (s.post c).issues = s.issues := rfl
@[simp] theorem State.post_script (s : State) (c : ResCode) : (s.post c).script = s.script := rfl
@[simp] theorem State.post_events (s : State) (c : ResCode) : (s.post c).events = s.events := rfl
@[simp] theorem State.post_csrOut (s : State) (c : ResCode) : (s.post c).csrOut = s.csrOut := rfl

/-! ### raise -/

@[simp] theorem State.raise_eng (s : State) (f : FaultCode) : (s.raise f).eng = { s.eng with fault := f } := rfl
@[simp] theorem State.raise_params (s : State) (f : FaultCode) : (s.raise f).params = s.params := rfl
@[simp] theorem State.raise_turns (s : State) (f : FaultCode) : (s.raise f).turns = s.turns := rfl
@[simp] theorem State.raise_issues (s : State) (f : FaultCode) : (s.raise f).issues = s.issues := rfl
@[simp] theorem State.raise_script (s : State) (f : FaultCode) : (s.raise f).script = s.script := rfl
@[simp] theorem State.raise_events (s : State) (f : FaultCode) : (s.raise f).events = s.events := rfl
@[simp] theorem State.raise_csrOut (s : State) (f : FaultCode) : (s.raise f).csrOut = s.csrOut := rfl

/-! ### clearPayload -/

@[simp] theorem State.clearPayload_eng (s : State) :
    (s.clearPayload).eng = { s.eng with payValid := false, payLen := 0, pay := zeroPay } := rfl
@[simp] theorem State.clearPayload_params (s : State) : (s.clearPayload).params = s.params := rfl
@[simp] theorem State.clearPayload_turns (s : State) : (s.clearPayload).turns = s.turns := rfl
@[simp] theorem State.clearPayload_issues (s : State) : (s.clearPayload).issues = s.issues := rfl
@[simp] theorem State.clearPayload_script (s : State) : (s.clearPayload).script = s.script := rfl
@[simp] theorem State.clearPayload_events (s : State) : (s.clearPayload).events = s.events := rfl
@[simp] theorem State.clearPayload_csrOut (s : State) : (s.clearPayload).csrOut = s.csrOut := rfl

/-! ### csrRead -/

@[simp] theorem State.csrRead_eng (s : State) (n : Fin 16) : (s.csrRead n).eng = s.eng := rfl
@[simp] theorem State.csrRead_params (s : State) (n : Fin 16) : (s.csrRead n).params = s.params := rfl
@[simp] theorem State.csrRead_turns (s : State) (n : Fin 16) : (s.csrRead n).turns = s.turns := rfl
@[simp] theorem State.csrRead_issues (s : State) (n : Fin 16) : (s.csrRead n).issues = s.issues := rfl
@[simp] theorem State.csrRead_script (s : State) (n : Fin 16) : (s.csrRead n).script = s.script := rfl
@[simp] theorem State.csrRead_events (s : State) (n : Fin 16) : (s.csrRead n).events = s.events := rfl
@[simp] theorem State.csrRead_csrOut (s : State) (n : Fin 16) :
    (s.csrRead n).csrOut = s.csrOut ++ [⟨n, csrValue s.eng n⟩] := rfl

/-! ### hostReset -/

@[simp] theorem State.hostReset_eng (s : State) : (s.hostReset).eng = Engine.reset := rfl
@[simp] theorem State.hostReset_params (s : State) : (s.hostReset).params = s.params := rfl
@[simp] theorem State.hostReset_turns (s : State) : (s.hostReset).turns = s.turns := rfl
@[simp] theorem State.hostReset_issues (s : State) : (s.hostReset).issues = s.issues := rfl
@[simp] theorem State.hostReset_script (s : State) : (s.hostReset).script = s.script := rfl
@[simp] theorem State.hostReset_events (s : State) : (s.hostReset).events = s.events := rfl
@[simp] theorem State.hostReset_csrOut (s : State) : (s.hostReset).csrOut = s.csrOut := rfl

/-! ### setIds -/

@[simp] theorem State.setIds_eng (s : State) (a : Word) :
    (s.setIds a).eng = { s.eng with
      sendId := idmap Config.sendBase a, replyId := idmap Config.replyBase a } := rfl
@[simp] theorem State.setIds_params (s : State) (a : Word) : (s.setIds a).params = s.params := rfl
@[simp] theorem State.setIds_turns (s : State) (a : Word) : (s.setIds a).turns = s.turns := rfl
@[simp] theorem State.setIds_issues (s : State) (a : Word) : (s.setIds a).issues = s.issues := rfl
@[simp] theorem State.setIds_script (s : State) (a : Word) : (s.setIds a).script = s.script := rfl
@[simp] theorem State.setIds_events (s : State) (a : Word) : (s.setIds a).events = s.events := rfl
@[simp] theorem State.setIds_csrOut (s : State) (a : Word) : (s.setIds a).csrOut = s.csrOut := rfl

/-! ### setPhase -/

@[simp] theorem State.setPhase_eng (s : State) (p : Phase) : (s.setPhase p).eng = { s.eng with phase := p } := rfl
@[simp] theorem State.setPhase_params (s : State) (p : Phase) : (s.setPhase p).params = s.params := rfl
@[simp] theorem State.setPhase_turns (s : State) (p : Phase) : (s.setPhase p).turns = s.turns := rfl
@[simp] theorem State.setPhase_issues (s : State) (p : Phase) : (s.setPhase p).issues = s.issues := rfl
@[simp] theorem State.setPhase_script (s : State) (p : Phase) : (s.setPhase p).script = s.script := rfl
@[simp] theorem State.setPhase_events (s : State) (p : Phase) : (s.setPhase p).events = s.events := rfl
@[simp] theorem State.setPhase_csrOut (s : State) (p : Phase) : (s.setPhase p).csrOut = s.csrOut := rfl

/-! ### setReqAddr -/

@[simp] theorem State.setReqAddr_eng (s : State) (a : RegAddr) :
    (s.setReqAddr a).eng = { s.eng with reqAddr := a } := rfl
@[simp] theorem State.setReqAddr_params (s : State) (a : RegAddr) : (s.setReqAddr a).params = s.params := rfl
@[simp] theorem State.setReqAddr_turns (s : State) (a : RegAddr) : (s.setReqAddr a).turns = s.turns := rfl
@[simp] theorem State.setReqAddr_issues (s : State) (a : RegAddr) : (s.setReqAddr a).issues = s.issues := rfl
@[simp] theorem State.setReqAddr_script (s : State) (a : RegAddr) : (s.setReqAddr a).script = s.script := rfl
@[simp] theorem State.setReqAddr_events (s : State) (a : RegAddr) : (s.setReqAddr a).events = s.events := rfl
@[simp] theorem State.setReqAddr_csrOut (s : State) (a : RegAddr) : (s.setReqAddr a).csrOut = s.csrOut := rfl

/-! ### awaitFrom -/

@[simp] theorem State.awaitFrom_eng (s : State) (t : Nat) :
    (s.awaitFrom t).eng = { s.eng with t0 := t, seq := .awaitingReply } := rfl
@[simp] theorem State.awaitFrom_params (s : State) (t : Nat) : (s.awaitFrom t).params = s.params := rfl
@[simp] theorem State.awaitFrom_turns (s : State) (t : Nat) : (s.awaitFrom t).turns = s.turns := rfl
@[simp] theorem State.awaitFrom_issues (s : State) (t : Nat) : (s.awaitFrom t).issues = s.issues := rfl
@[simp] theorem State.awaitFrom_script (s : State) (t : Nat) : (s.awaitFrom t).script = s.script := rfl
@[simp] theorem State.awaitFrom_events (s : State) (t : Nat) : (s.awaitFrom t).events = s.events := rfl
@[simp] theorem State.awaitFrom_csrOut (s : State) (t : Nat) : (s.awaitFrom t).csrOut = s.csrOut := rfl

/-! ### toIdle -/

@[simp] theorem State.toIdle_eng (s : State) : (s.toIdle).eng = { s.eng with seq := .idle } := rfl
@[simp] theorem State.toIdle_params (s : State) : (s.toIdle).params = s.params := rfl
@[simp] theorem State.toIdle_turns (s : State) : (s.toIdle).turns = s.turns := rfl
@[simp] theorem State.toIdle_issues (s : State) : (s.toIdle).issues = s.issues := rfl
@[simp] theorem State.toIdle_script (s : State) : (s.toIdle).script = s.script := rfl
@[simp] theorem State.toIdle_events (s : State) : (s.toIdle).events = s.events := rfl
@[simp] theorem State.toIdle_csrOut (s : State) : (s.toIdle).csrOut = s.csrOut := rfl

/-! ### failRead -/

@[simp] theorem State.failRead_eng (s : State) (c : ResCode) :
    (s.failRead c).eng = { s.eng with
      payValid := false, payLen := 0, pay := zeroPay, seq := .idle, resCode := c } := rfl
@[simp] theorem State.failRead_params (s : State) (c : ResCode) : (s.failRead c).params = s.params := rfl
@[simp] theorem State.failRead_turns (s : State) (c : ResCode) : (s.failRead c).turns = s.turns := rfl
@[simp] theorem State.failRead_issues (s : State) (c : ResCode) : (s.failRead c).issues = s.issues := rfl
@[simp] theorem State.failRead_script (s : State) (c : ResCode) : (s.failRead c).script = s.script := rfl
@[simp] theorem State.failRead_events (s : State) (c : ResCode) : (s.failRead c).events = s.events := rfl
@[simp] theorem State.failRead_csrOut (s : State) (c : ResCode) : (s.failRead c).csrOut = s.csrOut := rfl

/-! ### takePayload -/

@[simp] theorem State.takePayload_eng (s : State) :
    (s.takePayload).eng = { s.eng with
      payValid := true, payLen := payLenOf s.eng.rxCount, pay := payOf s.eng.rxBuf s.eng.rxCount } := rfl
@[simp] theorem State.takePayload_params (s : State) : (s.takePayload).params = s.params := rfl
@[simp] theorem State.takePayload_turns (s : State) : (s.takePayload).turns = s.turns := rfl
@[simp] theorem State.takePayload_issues (s : State) : (s.takePayload).issues = s.issues := rfl
@[simp] theorem State.takePayload_script (s : State) : (s.takePayload).script = s.script := rfl
@[simp] theorem State.takePayload_events (s : State) : (s.takePayload).events = s.events := rfl
@[simp] theorem State.takePayload_csrOut (s : State) : (s.takePayload).csrOut = s.csrOut := rfl

/-! ### succeedRead -/

@[simp] theorem State.succeedRead_eng (s : State) :
    (s.succeedRead).eng = { s.eng with
      payValid := true, payLen := payLenOf s.eng.rxCount, pay := payOf s.eng.rxBuf s.eng.rxCount,
      seq := .idle, resCode := .ok } := rfl
@[simp] theorem State.succeedRead_params (s : State) : (s.succeedRead).params = s.params := rfl
@[simp] theorem State.succeedRead_turns (s : State) : (s.succeedRead).turns = s.turns := rfl
@[simp] theorem State.succeedRead_issues (s : State) : (s.succeedRead).issues = s.issues := rfl
@[simp] theorem State.succeedRead_script (s : State) : (s.succeedRead).script = s.script := rfl
@[simp] theorem State.succeedRead_events (s : State) : (s.succeedRead).events = s.events := rfl
@[simp] theorem State.succeedRead_csrOut (s : State) : (s.succeedRead).csrOut = s.csrOut := rfl

/-! ### setRx -/

@[simp] theorem State.setRx_eng (s : State) (bs : List Byte) (k : Fin 9) :
    (s.setRx bs k).eng = { s.eng with rxBuf := rxOf bs, rxCount := k } := rfl
@[simp] theorem State.setRx_params (s : State) (bs : List Byte) (k : Fin 9) :
    (s.setRx bs k).params = s.params := rfl
@[simp] theorem State.setRx_turns (s : State) (bs : List Byte) (k : Fin 9) : (s.setRx bs k).turns = s.turns := rfl
@[simp] theorem State.setRx_issues (s : State) (bs : List Byte) (k : Fin 9) :
    (s.setRx bs k).issues = s.issues := rfl
@[simp] theorem State.setRx_script (s : State) (bs : List Byte) (k : Fin 9) :
    (s.setRx bs k).script = s.script := rfl
@[simp] theorem State.setRx_events (s : State) (bs : List Byte) (k : Fin 9) :
    (s.setRx bs k).events = s.events := rfl
@[simp] theorem State.setRx_csrOut (s : State) (bs : List Byte) (k : Fin 9) :
    (s.setRx bs k).csrOut = s.csrOut := rfl

/-! ### setDecoded -/

@[simp] theorem State.setDecoded_eng (s : State) (b : Bool) (v : BitVec 16) :
    (s.setDecoded b v).eng = { s.eng with decValid := b, decValue := v } := rfl
@[simp] theorem State.setDecoded_params (s : State) (b : Bool) (v : BitVec 16) :
    (s.setDecoded b v).params = s.params := rfl
@[simp] theorem State.setDecoded_turns (s : State) (b : Bool) (v : BitVec 16) :
    (s.setDecoded b v).turns = s.turns := rfl
@[simp] theorem State.setDecoded_issues (s : State) (b : Bool) (v : BitVec 16) :
    (s.setDecoded b v).issues = s.issues := rfl
@[simp] theorem State.setDecoded_script (s : State) (b : Bool) (v : BitVec 16) :
    (s.setDecoded b v).script = s.script := rfl
@[simp] theorem State.setDecoded_events (s : State) (b : Bool) (v : BitVec 16) :
    (s.setDecoded b v).events = s.events := rfl
@[simp] theorem State.setDecoded_csrOut (s : State) (b : Bool) (v : BitVec 16) :
    (s.setDecoded b v).csrOut = s.csrOut := rfl

/-! ### setTurns -/

@[simp] theorem State.setTurns_eng (s : State) (l : List Turn) : (s.setTurns l).eng = s.eng := rfl
@[simp] theorem State.setTurns_params (s : State) (l : List Turn) : (s.setTurns l).params = s.params := rfl
@[simp] theorem State.setTurns_turns (s : State) (l : List Turn) : (s.setTurns l).turns = l := rfl
@[simp] theorem State.setTurns_issues (s : State) (l : List Turn) : (s.setTurns l).issues = s.issues := rfl
@[simp] theorem State.setTurns_script (s : State) (l : List Turn) : (s.setTurns l).script = s.script := rfl
@[simp] theorem State.setTurns_events (s : State) (l : List Turn) : (s.setTurns l).events = s.events := rfl
@[simp] theorem State.setTurns_csrOut (s : State) (l : List Turn) : (s.setTurns l).csrOut = s.csrOut := rfl

/-! ### setIssues -/

@[simp] theorem State.setIssues_eng (s : State) (l : List Issue) : (s.setIssues l).eng = s.eng := rfl
@[simp] theorem State.setIssues_params (s : State) (l : List Issue) : (s.setIssues l).params = s.params := rfl
@[simp] theorem State.setIssues_turns (s : State) (l : List Issue) : (s.setIssues l).turns = s.turns := rfl
@[simp] theorem State.setIssues_issues (s : State) (l : List Issue) : (s.setIssues l).issues = l := rfl
@[simp] theorem State.setIssues_script (s : State) (l : List Issue) : (s.setIssues l).script = s.script := rfl
@[simp] theorem State.setIssues_events (s : State) (l : List Issue) : (s.setIssues l).events = s.events := rfl
@[simp] theorem State.setIssues_csrOut (s : State) (l : List Issue) : (s.setIssues l).csrOut = s.csrOut := rfl

/-! ### Answers -/

@[simp] theorem State.setTurns_nextStart (s : State) (l : List Turn) : (s.setTurns l).nextStart = s.nextStart := rfl
@[simp] theorem State.setTurns_nextPoll (s : State) (l : List Turn) : (s.setTurns l).nextPoll = s.nextPoll := rfl
@[simp] theorem State.setTurns_nextAvail (s : State) (l : List Turn) : (s.setTurns l).nextAvail = s.nextAvail := rfl
@[simp] theorem State.setTurns_nextBytes (s : State) (l : List Turn) (k : Nat) : (s.setTurns l).nextBytes k = s.nextBytes k := rfl
@[simp] theorem State.setTurns_nextClock (s : State) (l : List Turn) : (s.setTurns l).nextClock = s.nextClock := rfl

@[simp] theorem State.setIssues_nextStart (s : State) (l : List Issue) : (s.setIssues l).nextStart = s.nextStart := rfl
@[simp] theorem State.setIssues_nextPoll (s : State) (l : List Issue) : (s.setIssues l).nextPoll = s.nextPoll := rfl
@[simp] theorem State.setIssues_nextAvail (s : State) (l : List Issue) : (s.setIssues l).nextAvail = s.nextAvail := rfl
@[simp] theorem State.setIssues_nextBytes (s : State) (l : List Issue) (k : Nat) : (s.setIssues l).nextBytes k = s.nextBytes k := rfl
@[simp] theorem State.setIssues_nextClock (s : State) (l : List Issue) : (s.setIssues l).nextClock = s.nextClock := rfl

@[simp] theorem State.busConfigure_nextStart (s : State) (c : BusCfg) : (s.busConfigure c).nextStart = s.nextStart := rfl
@[simp] theorem State.busConfigure_nextPoll (s : State) (c : BusCfg) : (s.busConfigure c).nextPoll = s.nextPoll := rfl
@[simp] theorem State.busConfigure_nextAvail (s : State) (c : BusCfg) : (s.busConfigure c).nextAvail = s.nextAvail := rfl
@[simp] theorem State.busConfigure_nextBytes (s : State) (c : BusCfg) (k' : Nat) : (s.busConfigure c).nextBytes k' = s.nextBytes k' := rfl
@[simp] theorem State.busConfigure_nextClock (s : State) (c : BusCfg) : (s.busConfigure c).nextClock = s.nextClock := rfl

@[simp] theorem State.busStart_nextPoll (s : State) : (s.busStart).nextPoll = s.nextPoll := rfl
@[simp] theorem State.busStart_nextAvail (s : State) : (s.busStart).nextAvail = s.nextAvail := rfl
@[simp] theorem State.busStart_nextBytes (s : State) (k' : Nat) : (s.busStart).nextBytes k' = s.nextBytes k' := rfl
@[simp] theorem State.busStart_nextClock (s : State) : (s.busStart).nextClock = s.nextClock := rfl

@[simp] theorem State.txFrame_nextStart (s : State) (a : RegAddr) (p : List Byte) : (s.txFrame a p).nextStart = s.nextStart := rfl
@[simp] theorem State.txFrame_nextPoll (s : State) (a : RegAddr) (p : List Byte) : (s.txFrame a p).nextPoll = s.nextPoll := rfl
@[simp] theorem State.txFrame_nextAvail (s : State) (a : RegAddr) (p : List Byte) : (s.txFrame a p).nextAvail = s.nextAvail := rfl
@[simp] theorem State.txFrame_nextBytes (s : State) (a : RegAddr) (p : List Byte) (k' : Nat) : (s.txFrame a p).nextBytes k' = s.nextBytes k' := rfl
@[simp] theorem State.txFrame_nextClock (s : State) (a : RegAddr) (p : List Byte) : (s.txFrame a p).nextClock = s.nextClock := rfl

@[simp] theorem State.clockRead_nextStart (s : State) : (s.clockRead).nextStart = s.nextStart := rfl
@[simp] theorem State.clockRead_nextPoll (s : State) : (s.clockRead).nextPoll = s.nextPoll := rfl
@[simp] theorem State.clockRead_nextAvail (s : State) : (s.clockRead).nextAvail = s.nextAvail := rfl
@[simp] theorem State.clockRead_nextBytes (s : State) (k' : Nat) : (s.clockRead).nextBytes k' = s.nextBytes k' := rfl

@[simp] theorem State.busPoll_nextStart (s : State) : (s.busPoll).nextStart = s.nextStart := rfl
@[simp] theorem State.busPoll_nextAvail (s : State) : (s.busPoll).nextAvail = s.nextAvail := rfl
@[simp] theorem State.busPoll_nextBytes (s : State) (k' : Nat) : (s.busPoll).nextBytes k' = s.nextBytes k' := rfl
@[simp] theorem State.busPoll_nextClock (s : State) : (s.busPoll).nextClock = s.nextClock := rfl

@[simp] theorem State.busAvail_nextStart (s : State) : (s.busAvail).nextStart = s.nextStart := rfl
@[simp] theorem State.busAvail_nextPoll (s : State) : (s.busAvail).nextPoll = s.nextPoll := rfl
@[simp] theorem State.busAvail_nextBytes (s : State) (k' : Nat) : (s.busAvail).nextBytes k' = s.nextBytes k' := rfl
@[simp] theorem State.busAvail_nextClock (s : State) : (s.busAvail).nextClock = s.nextClock := rfl

@[simp] theorem State.busReadBytes_nextStart (s : State) (k : Nat) : (s.busReadBytes k).nextStart = s.nextStart := rfl
@[simp] theorem State.busReadBytes_nextPoll (s : State) (k : Nat) : (s.busReadBytes k).nextPoll = s.nextPoll := rfl
@[simp] theorem State.busReadBytes_nextAvail (s : State) (k : Nat) : (s.busReadBytes k).nextAvail = s.nextAvail := rfl
@[simp] theorem State.busReadBytes_nextClock (s : State) (k : Nat) : (s.busReadBytes k).nextClock = s.nextClock := rfl

@[simp] theorem State.post_nextStart (s : State) (c : ResCode) : (s.post c).nextStart = s.nextStart := rfl
@[simp] theorem State.post_nextPoll (s : State) (c : ResCode) : (s.post c).nextPoll = s.nextPoll := rfl
@[simp] theorem State.post_nextAvail (s : State) (c : ResCode) : (s.post c).nextAvail = s.nextAvail := rfl
@[simp] theorem State.post_nextBytes (s : State) (c : ResCode) (k' : Nat) : (s.post c).nextBytes k' = s.nextBytes k' := rfl
@[simp] theorem State.post_nextClock (s : State) (c : ResCode) : (s.post c).nextClock = s.nextClock := rfl

@[simp] theorem State.clearPayload_nextStart (s : State) : (s.clearPayload).nextStart = s.nextStart := rfl
@[simp] theorem State.clearPayload_nextPoll (s : State) : (s.clearPayload).nextPoll = s.nextPoll := rfl
@[simp] theorem State.clearPayload_nextAvail (s : State) : (s.clearPayload).nextAvail = s.nextAvail := rfl
@[simp] theorem State.clearPayload_nextBytes (s : State) (k' : Nat) : (s.clearPayload).nextBytes k' = s.nextBytes k' := rfl
@[simp] theorem State.clearPayload_nextClock (s : State) : (s.clearPayload).nextClock = s.nextClock := rfl

@[simp] theorem State.hostReset_nextStart (s : State) : (s.hostReset).nextStart = s.nextStart := rfl
@[simp] theorem State.hostReset_nextPoll (s : State) : (s.hostReset).nextPoll = s.nextPoll := rfl
@[simp] theorem State.hostReset_nextAvail (s : State) : (s.hostReset).nextAvail = s.nextAvail := rfl
@[simp] theorem State.hostReset_nextBytes (s : State) (k' : Nat) : (s.hostReset).nextBytes k' = s.nextBytes k' := rfl
@[simp] theorem State.hostReset_nextClock (s : State) : (s.hostReset).nextClock = s.nextClock := rfl

@[simp] theorem State.setIds_nextStart (s : State) (a : Word) : (s.setIds a).nextStart = s.nextStart := rfl
@[simp] theorem State.setIds_nextPoll (s : State) (a : Word) : (s.setIds a).nextPoll = s.nextPoll := rfl
@[simp] theorem State.setIds_nextAvail (s : State) (a : Word) : (s.setIds a).nextAvail = s.nextAvail := rfl
@[simp] theorem State.setIds_nextBytes (s : State) (a : Word) (k' : Nat) : (s.setIds a).nextBytes k' = s.nextBytes k' := rfl
@[simp] theorem State.setIds_nextClock (s : State) (a : Word) : (s.setIds a).nextClock = s.nextClock := rfl

@[simp] theorem State.setPhase_nextStart (s : State) (p : Phase) : (s.setPhase p).nextStart = s.nextStart := rfl
@[simp] theorem State.setPhase_nextPoll (s : State) (p : Phase) : (s.setPhase p).nextPoll = s.nextPoll := rfl
@[simp] theorem State.setPhase_nextAvail (s : State) (p : Phase) : (s.setPhase p).nextAvail = s.nextAvail := rfl
@[simp] theorem State.setPhase_nextBytes (s : State) (p : Phase) (k' : Nat) : (s.setPhase p).nextBytes k' = s.nextBytes k' := rfl
@[simp] theorem State.setPhase_nextClock (s : State) (p : Phase) : (s.setPhase p).nextClock = s.nextClock := rfl

@[simp] theorem State.setReqAddr_nextStart (s : State) (a : RegAddr) : (s.setReqAddr a).nextStart = s.nextStart := rfl
@[simp] theorem State.setReqAddr_nextPoll (s : State) (a : RegAddr) : (s.setReqAddr a).nextPoll = s.nextPoll := rfl
@[simp] theorem State.setReqAddr_nextAvail (s : State) (a : RegAddr) : (s.setReqAddr a).nextAvail = s.nextAvail := rfl
@[simp] theorem State.setReqAddr_nextBytes (s : State) (a : RegAddr) (k' : Nat) : (s.setReqAddr a).nextBytes k' = s.nextBytes k' := rfl
@[simp] theorem State.setReqAddr_nextClock (s : State) (a : RegAddr) : (s.setReqAddr a).nextClock = s.nextClock := rfl

@[simp] theorem State.awaitFrom_nextStart (s : State) (t : Nat) : (s.awaitFrom t).nextStart = s.nextStart := rfl
@[simp] theorem State.awaitFrom_nextPoll (s : State) (t : Nat) : (s.awaitFrom t).nextPoll = s.nextPoll := rfl
@[simp] theorem State.awaitFrom_nextAvail (s : State) (t : Nat) : (s.awaitFrom t).nextAvail = s.nextAvail := rfl
@[simp] theorem State.awaitFrom_nextBytes (s : State) (t : Nat) (k' : Nat) : (s.awaitFrom t).nextBytes k' = s.nextBytes k' := rfl
@[simp] theorem State.awaitFrom_nextClock (s : State) (t : Nat) : (s.awaitFrom t).nextClock = s.nextClock := rfl

@[simp] theorem State.toIdle_nextStart (s : State) : (s.toIdle).nextStart = s.nextStart := rfl
@[simp] theorem State.toIdle_nextPoll (s : State) : (s.toIdle).nextPoll = s.nextPoll := rfl
@[simp] theorem State.toIdle_nextAvail (s : State) : (s.toIdle).nextAvail = s.nextAvail := rfl
@[simp] theorem State.toIdle_nextBytes (s : State) (k' : Nat) : (s.toIdle).nextBytes k' = s.nextBytes k' := rfl
@[simp] theorem State.toIdle_nextClock (s : State) : (s.toIdle).nextClock = s.nextClock := rfl

@[simp] theorem State.failRead_nextStart (s : State) (c : ResCode) : (s.failRead c).nextStart = s.nextStart := rfl
@[simp] theorem State.failRead_nextPoll (s : State) (c : ResCode) : (s.failRead c).nextPoll = s.nextPoll := rfl
@[simp] theorem State.failRead_nextAvail (s : State) (c : ResCode) : (s.failRead c).nextAvail = s.nextAvail := rfl
@[simp] theorem State.failRead_nextBytes (s : State) (c : ResCode) (k' : Nat) : (s.failRead c).nextBytes k' = s.nextBytes k' := rfl
@[simp] theorem State.failRead_nextClock (s : State) (c : ResCode) : (s.failRead c).nextClock = s.nextClock := rfl

@[simp] theorem State.takePayload_nextStart (s : State) : (s.takePayload).nextStart = s.nextStart := rfl
@[simp] theorem State.takePayload_nextPoll (s : State) : (s.takePayload).nextPoll = s.nextPoll := rfl
@[simp] theorem State.takePayload_nextAvail (s : State) : (s.takePayload).nextAvail = s.nextAvail := rfl
@[simp] theorem State.takePayload_nextBytes (s : State) (k' : Nat) : (s.takePayload).nextBytes k' = s.nextBytes k' := rfl
@[simp] theorem State.takePayload_nextClock (s : State) : (s.takePayload).nextClock = s.nextClock := rfl

@[simp] theorem State.succeedRead_nextStart (s : State) : (s.succeedRead).nextStart = s.nextStart := rfl
@[simp] theorem State.succeedRead_nextPoll (s : State) : (s.succeedRead).nextPoll = s.nextPoll := rfl
@[simp] theorem State.succeedRead_nextAvail (s : State) : (s.succeedRead).nextAvail = s.nextAvail := rfl
@[simp] theorem State.succeedRead_nextBytes (s : State) (k' : Nat) : (s.succeedRead).nextBytes k' = s.nextBytes k' := rfl
@[simp] theorem State.succeedRead_nextClock (s : State) : (s.succeedRead).nextClock = s.nextClock := rfl

@[simp] theorem State.setRx_nextStart (s : State) (bs : List Byte) (k : Fin 9) : (s.setRx bs k).nextStart = s.nextStart := rfl
@[simp] theorem State.setRx_nextPoll (s : State) (bs : List Byte) (k : Fin 9) : (s.setRx bs k).nextPoll = s.nextPoll := rfl
@[simp] theorem State.setRx_nextAvail (s : State) (bs : List Byte) (k : Fin 9) : (s.setRx bs k).nextAvail = s.nextAvail := rfl
@[simp] theorem State.setRx_nextBytes (s : State) (bs : List Byte) (k : Fin 9) (k' : Nat) : (s.setRx bs k).nextBytes k' = s.nextBytes k' := rfl
@[simp] theorem State.setRx_nextClock (s : State) (bs : List Byte) (k : Fin 9) : (s.setRx bs k).nextClock = s.nextClock := rfl

@[simp] theorem State.setDecoded_nextStart (s : State) (b : Bool) (v : BitVec 16) : (s.setDecoded b v).nextStart = s.nextStart := rfl
@[simp] theorem State.setDecoded_nextPoll (s : State) (b : Bool) (v : BitVec 16) : (s.setDecoded b v).nextPoll = s.nextPoll := rfl
@[simp] theorem State.setDecoded_nextAvail (s : State) (b : Bool) (v : BitVec 16) : (s.setDecoded b v).nextAvail = s.nextAvail := rfl
@[simp] theorem State.setDecoded_nextBytes (s : State) (b : Bool) (v : BitVec 16) (k' : Nat) : (s.setDecoded b v).nextBytes k' = s.nextBytes k' := rfl
@[simp] theorem State.setDecoded_nextClock (s : State) (b : Bool) (v : BitVec 16) : (s.setDecoded b v).nextClock = s.nextClock := rfl

end Sys2Proof.Machine
end

