-- ==== Sys2Proof/Laws/Ops.lean ====
section
/-! SUPPORT. What a step can do, said once: one case list for each of exec, the poll step and the step, which later
proofs cite and do not unfold. -/

namespace Sys2Proof.Machine

variable {s t a : State}

/-! ### Acceptance -/

theorem accept_eq_next : s.accept a = .next t ↔ s.accepting ∧ t = a := by
  unfold State.accept State.accepting
  split
  · simp [*]
  · split <;> rename_i hf _ hs <;> simp [not_not.mp hf, hs, eq_comm]

theorem accept_of_accepting (h : s.accepting) : s.accept a = .next a :=
  accept_eq_next.mpr ⟨h, rfl⟩

theorem accept_of_faulted (h : s.eng.fault ≠ .none) : s.accept a = .fault (.stuck s.eng.fault) := by
  simp [State.accept, h]

/-! ### The commands -/

/-- What the acceptance of a command can do. -/
inductive ExecCase (s t : State) : Instr → Prop
  | reinit (a : Word) (c : BusCfg) (hp : s.eng.phase ≠ .uninit) (ht : t = s.raise .reinit) :
      ExecCase s t (.init a c)
  | initRuns (a : Word) (c : BusCfg) (hp : s.eng.phase = .uninit) (ht : t = initRun a c s) :
      ExecCase s t (.init a c)
  | writeNotReady (a : RegAddr) (n : BitVec 4) (p : Payload) (hp : s.eng.phase ≠ .ready)
      (ht : t = s.raise .notReady) : ExecCase s t (.write a n p)
  | writeTooLong (a : RegAddr) (n : BitVec 4) (p : Payload) (hp : s.eng.phase = .ready)
      (hn : Config.payloadMax < n.toNat) (ht : t = s.post .invalidArgument) : ExecCase s t (.write a n p)
  | writeSends (a : RegAddr) (n : BitVec 4) (p : Payload) (hp : s.eng.phase = .ready)
      (hn : n.toNat ≤ Config.payloadMax) (ht : t = (s.txFrame a (payloadBytes p n.toNat)).post .ok) :
      ExecCase s t (.write a n p)
  | readNotReady (a : RegAddr) (hp : s.eng.phase ≠ .ready) (ht : t = s.raise .notReady) :
      ExecCase s t (.read a)
  | readRuns (a : RegAddr) (hp : s.eng.phase = .ready) (ht : t = readRun a s) : ExecCase s t (.read a)
  | decodes (hd : decodable s.eng = true) (ht : t = (s.setDecoded true (decodedValue s.eng)).post .ok) :
      ExecCase s t .decode
  | decodeFails (hd : decodable s.eng = false) (ht : t = (s.setDecoded false 0).post .invalidArgument) :
      ExecCase s t .decode

theorem exec_eq_next {i : Instr} (h : exec i s = .next t) : s.accepting ∧ ExecCase s t i := by
  cases i with
  | init a c =>
    obtain ⟨ha, ht⟩ := accept_eq_next.mp h
    refine ⟨ha, ?_⟩
    split at ht
    · exact .reinit a c ‹_› ht
    · exact .initRuns a c (not_not.mp ‹_›) ht
  | write a n p =>
    obtain ⟨ha, ht⟩ := accept_eq_next.mp h
    refine ⟨ha, ?_⟩
    split at ht
    · exact .writeNotReady a n p ‹_› ht
    · unfold writeRun at ht
      split at ht
      · exact .writeTooLong a n p (not_not.mp ‹_›) ‹_› ht
      · exact .writeSends a n p (not_not.mp ‹_›) (not_lt.mp ‹_›) ht
  | read a =>
    obtain ⟨ha, ht⟩ := accept_eq_next.mp h
    refine ⟨ha, ?_⟩
    split at ht
    · exact .readNotReady a ‹_› ht
    · exact .readRuns a (not_not.mp ‹_›) ht
  | decode =>
    obtain ⟨ha, ht⟩ := accept_eq_next.mp h
    refine ⟨ha, ?_⟩
    unfold decodeRun at ht
    split at ht
    · exact .decodes ‹_› ht
    · exact .decodeFails (Bool.not_eq_true _ ▸ ‹_›) ht

theorem exec_init_of_uninit (ha : s.accepting) (hp : s.eng.phase = .uninit) (a : Word) (c : BusCfg) :
    exec (.init a c) s = .next (initRun a c s) := by
  simp only [exec, execInit]
  rw [accept_of_accepting ha, if_neg (by simp [hp])]

theorem exec_write_of_ready (ha : s.accepting) (hp : s.eng.phase = .ready) (a : RegAddr) (n : BitVec 4)
    (p : Payload) : exec (.write a n p) s = .next (writeRun a n p s) := by
  simp only [exec, execWrite]
  rw [accept_of_accepting ha, if_neg (by simp [hp])]

theorem exec_read_of_ready (ha : s.accepting) (hp : s.eng.phase = .ready) (a : RegAddr) :
    exec (.read a) s = .next (readRun a s) := by
  simp only [exec, execRead]
  rw [accept_of_accepting ha, if_neg (by simp [hp])]

/-! ### The poll step -/

theorem nextBytes_length (s : State) (k : Nat) : (s.nextBytes k).length = k := by simp [State.nextBytes]

/-- The timeout test against the natural-number window of Safety (42_read.md R113). -/
theorem windowElapsed_iff (h : s.eng.t0 < 2 ^ s.params.clockW) :
    windowElapsed s.params s.nextClock s.eng.t0 = true ↔ ¬ s.windowOpen := by
  simp [windowElapsed, elapsed_eq h, State.windowOpen]

/-- The machine after the clock read that opens a poll step and the poll that follows it. -/
def State.polled (s : State) : State := s.clockRead.busPoll

/-- What a poll step can do. -/
inductive PollCase (s t : State) : Prop
  | timesOut (hw : windowElapsed s.params s.nextClock s.eng.t0 = true)
      (ht : t = s.clockRead.failRead .timeout)
  | waits (hw : windowElapsed s.params s.nextClock s.eng.t0 = false) (hp : s.nextPoll = false)
      (ht : t = s.polled)
  | succeeds (hw : windowElapsed s.params s.nextClock s.eng.t0 = false) (hp : s.nextPoll = true)
      (he : echoOk s.polled.drain.eng = true) (ht : t = s.polled.drain.succeedRead)
  | mismatches (hw : windowElapsed s.params s.nextClock s.eng.t0 = false) (hp : s.nextPoll = true)
      (he : echoOk s.polled.drain.eng = false) (ht : t = s.polled.drain.failRead .echoMismatch)

theorem pollStep_cases (s : State) : PollCase s (pollStep s) := by
  by_cases hw : windowElapsed s.params s.nextClock s.eng.t0 = true
  · exact .timesOut hw (by simp [pollStep, hw])
  · simp only [Bool.not_eq_true] at hw
    by_cases hp : s.nextPoll = true
    · have hj : pollStep s = s.polled.judgeFrame := by simp [pollStep, State.polled, hw, hp]
      by_cases he : echoOk s.polled.drain.eng = true
      · exact .succeeds hw hp he (by simp [hj, State.judgeFrame, he])
      · simp only [Bool.not_eq_true] at he
        exact .mismatches hw hp he (by simp [hj, State.judgeFrame, he])
    · simp only [Bool.not_eq_true] at hp
      exact .waits hw hp (by simp [pollStep, hw, hp, State.polled])

/-- What the drain leaves in the receive buffer (42_read.md R114). -/
theorem polled_drain_rx {k : Nat} (hk : (k : Int) = min (max s.nextAvail 0) 8) :
    s.polled.drain.eng = { s.eng with rxBuf := rxOf (s.nextBytes k), rxCount := clampCount s.nextAvail } := by
  simp [State.drain, State.polled, clampCount_val hk]

/-- The events of a poll step that drains a frame (42_read.md R112). -/
theorem polled_drain_events {k : Nat} (hk : (k : Int) = min (max s.nextAvail 0) 8) :
    s.polled.drain.events = s.events ++ [.clockRead s.nextClock, .busPoll s.nextPoll, .busAvail s.nextAvail] ++
      (s.nextBytes k).map .busReadByte := by
  simp [State.drain, State.polled, clampCount_val hk]

/-- The answers a poll step that drains a frame takes (42_read.md R112, R114). -/
theorem polled_drain_script {k : Nat} (hk : (k : Int) = min (max s.nextAvail 0) 8) :
    s.polled.drain.script = { s.script with
      clock := answersAfter s.script.clock 1, poll := answersAfter s.script.poll 1
      avail := answersAfter s.script.avail 1, byte := answersAfter s.script.byte k } := by
  simp [State.drain, State.polled, clampCount_val hk]

/-- The echo comparator on the frame just drained, over the bytes read (42_read.md R115). -/
theorem echoOk_polled_drain {k : Nat} (hk : (k : Int) = min (max s.nextAvail 0) 8) :
    echoOk s.polled.drain.eng = true ↔
      2 ≤ k ∧ (s.nextBytes k)[0]? = some (s.eng.reqAddr.setWidth 8) ∧
        (s.nextBytes k)[1]? = some ((s.eng.reqAddr >>> 8).setWidth 8) := by
  have hl := nextBytes_length s k
  rw [polled_drain_rx hk]
  simp only [echoOk, clampCount_val hk, Bool.and_eq_true, decide_eq_true_eq, beq_iff_eq, lowByte_eq, highByte_eq]
  rw [show (rxOf (s.nextBytes k))[0] = (s.nextBytes k).getD 0 0 from rfl,
    show (rxOf (s.nextBytes k))[1] = (s.nextBytes k).getD 1 0 from rfl, and_assoc]
  refine and_congr_right fun h2 => and_congr ?_ ?_ <;>
    rw [List.getD_eq_getElem _ _ (by omega), List.getElem?_eq_getElem (by omega), Option.some_inj]

/-! ### The step -/

/-- What a step can do. -/
inductive StepCase (s t : State) : Prop
  | reset (rest : List Turn) (hm : s.turns = .reset :: rest)
      (ht : t = (s.setTurns rest).hostReset)
  | csrRead (n : Fin 16) (rest : List Turn) (hm : s.turns = .csrRead n :: rest)
      (ht : t = (s.setTurns rest).csrRead n)
  | waits (rest : List Turn) (hm : s.engineMoves rest) (ha : s.accepting) (hi : s.issues = [])
      (ht : t = s.setTurns rest)
  | polls (rest : List Turn) (hm : s.engineMoves rest) (hp : s.polling)
      (ht : t = pollStep (s.setTurns rest))
  | illegal (rest : List Turn) (q : Issue) (qs : List Issue) (e : DecodeError) (hm : s.engineMoves rest)
      (ha : s.accepting) (hi : s.issues = q :: qs) (hd : decode q = .error e)
      (ht : t = ((s.setTurns rest).setIssues qs).raise .illegalCmd)
  | command (rest : List Turn) (q : Issue) (qs : List Issue) (i : Instr) (hm : s.engineMoves rest)
      (ha : s.accepting) (hi : s.issues = q :: qs) (hd : decode q = .ok i)
      (ht : ExecCase ((s.setTurns rest).setIssues qs) t i)

theorem step_of_engineMoves {rest : List Turn} (hm : s.engineMoves rest) :
    step s = engineTurn (s.setTurns rest) := by
  obtain ⟨h1, rfl⟩ | h1 := hm
  · obtain ⟨eng, params, turns, issues, script, events, csrOut⟩ := s
    subst h1
    rfl
  · simp [step, takeTurn, h1]

theorem engineTurn_of_faulted (h : s.eng.fault ≠ .none) :
    engineTurn s = .fault (.stuck s.eng.fault) := by
  simp [engineTurn, h]

theorem engineTurn_of_polling (h : s.polling) : engineTurn s = .next (pollStep s) := by
  simp [engineTurn, h.1, h.2]

theorem step_of_polling {rest : List Turn} (hm : s.engineMoves rest) (hp : s.polling) :
    step s = .next (pollStep (s.setTurns rest)) :=
  (step_of_engineMoves hm).trans (engineTurn_of_polling (s := s.setTurns rest) hp)

theorem engineTurn_of_accepting (h : s.accepting) {q : Issue} {qs : List Issue} (hi : s.issues = q :: qs) :
    engineTurn s = acceptIssue q (s.setIssues qs) := by
  simp [engineTurn, h.1, h.2, hi]

theorem engineTurn_of_waiting (h : s.accepting) (hi : s.issues = []) : engineTurn s = .next s := by
  simp [engineTurn, h.1, h.2, hi]

theorem engineTurn_eq_next (rest : List Turn) (hm : s.engineMoves rest)
    (h : engineTurn (s.setTurns rest) = .next t) : StepCase s t := by
  by_cases hf : s.eng.fault = .none
  · cases hs : s.eng.seq with
    | awaitingReply =>
      rw [engineTurn_of_polling (s := s.setTurns rest) ⟨hf, hs⟩] at h
      exact .polls rest hm ⟨hf, hs⟩ (Host.Outcome.next.inj h).symm
    | idle =>
      cases hi : s.issues with
      | nil =>
        rw [engineTurn_of_waiting (s := s.setTurns rest) ⟨hf, hs⟩ hi] at h
        exact .waits rest hm ⟨hf, hs⟩ hi (Host.Outcome.next.inj h).symm
      | cons q qs =>
        rw [engineTurn_of_accepting (s := s.setTurns rest) ⟨hf, hs⟩ hi] at h
        unfold acceptIssue at h
        split at h
        · exact .command rest q qs _ hm ⟨hf, hs⟩ hi ‹_› (exec_eq_next h).2
        · exact .illegal rest q qs _ hm ⟨hf, hs⟩ hi ‹_› (accept_eq_next.mp h).2
  · rw [engineTurn_of_faulted (s := s.setTurns rest) hf] at h
    cases h

theorem step_eq_next (h : step s = .next t) : StepCase s t := by
  cases hts : s.turns with
  | nil =>
    have hm : s.engineMoves [] := .inl ⟨hts, rfl⟩
    exact engineTurn_eq_next [] hm (step_of_engineMoves hm ▸ h)
  | cons turn rest =>
    cases turn with
    | engine =>
      have hm : s.engineMoves rest := .inr hts
      exact engineTurn_eq_next rest hm (step_of_engineMoves hm ▸ h)
    | csrRead n => exact .csrRead n rest hts (by simpa [step, takeTurn, hts, eq_comm] using h)
    | reset => exact .reset rest hts (by simpa [step, takeTurn, hts, eq_comm] using h)

/-- A run of one more step, when the step answers a next state. -/
theorem run_succ_of_step (h : step s = .next t) (k : Nat) :
    Host.Core.run Sys2Proof.core (k + 1) s = Host.Core.run Sys2Proof.core k t := by
  have hc : Sys2Proof.core.step s = .next t := h
  simp only [Host.Core.run, hc]

end Sys2Proof.Machine
end

