-- ==== Sys2Proof/Laws/PerInstr.lean ====
section
/-! SUPPORT. Statements made per instruction: what the encoder writes for each command. -/

namespace Sys2Proof.Laws.Encoding

/-- The opcode of each command (30_encoding.md R72). -/
def opcode : Instr → BitVec 3
  | .init _ _ => 0b000#3
  | .write _ _ _ => 0b001#3
  | .read _ => 0b010#3
  | .decode => 0b011#3

/-- The encoder writes the command's opcode and leaves the reserved bits 0 (30_encoding.md R71, R72, R75). -/
def Statement (i : Instr) : Prop :=
  fieldOp (encode i).cmd = opcode i ∧ fieldRsv0 (encode i).cmd = 0 ∧ fieldRsv1 (encode i).cmd = 0

theorem of_cmdWord {i : Instr} (addr : RegAddr) (len : BitVec 4)
    (h : (encode i).cmd = cmdWord addr len (opcode i)) : Statement i := by
  unfold Statement
  rw [h]
  exact ⟨fieldOp_cmdWord _ _ _, fieldRsv0_cmdWord _ _ _, fieldRsv1_cmdWord _ _ _⟩

theorem init (busAddr : Word) (cfg : BusCfg) : Statement (.init busAddr cfg) := of_cmdWord 0 0 rfl

theorem write (addr : RegAddr) (len : BitVec 4) (payload : Payload) : Statement (.write addr len payload) :=
  of_cmdWord addr len rfl

theorem read (addr : RegAddr) : Statement (.read addr) := of_cmdWord addr 0 rfl

theorem decode : Statement .decode := of_cmdWord 0 0 rfl

end Sys2Proof.Laws.Encoding
end

