-- ==== Sys2Proof/Tests/Slice0.lean ====
section
/-! SUPPORT. Tests: command words and vectors of 95_test_vectors.md, an ill-formed term for each check of WellFormed,
and for each statement with hypotheses a state and operands that meet them. Expected values are the spec's. -/

namespace Sys2Proof.Tests

open Sys2Proof Sys2Proof.Machine Host

/-! ### States the tests start from -/

/-- Phase READY on bus address 3, as in 95_test_vectors.md part 2. -/
def ready : State :=
  { State.reset with eng := { Engine.reset with
      phase := .ready, sendId := 0x000C0303, replyId := 0x000C0203, resCode := .ok } }

/-- A READ of 0x0062 outstanding since clock value `t0`, and the answers to come. -/
def awaiting (t0 : Nat) (clock : List Nat) (poll : List Bool) (avail : List Int) (bytes : List Byte) : State :=
  { ready with
    eng := { ready.eng with seq := .awaitingReply, reqAddr := 0x0062, t0 := t0 }
    script := ⟨Answers.none, ⟨poll, 0⟩, ⟨avail, 0⟩, ⟨bytes, 0⟩, ⟨clock, 0⟩⟩ }

/-- A payload held, as after a READ that completed with OK. -/
def holding (len : Fin 7) (b0 b1 : Byte) : State :=
  { ready with eng := { ready.eng with payValid := true, payLen := len, pay := #v[b0, b1, 0, 0, 0, 0] } }

/-- A command issued. -/
def issued (s : State) (q : Issue) : State := { s with issues := [q] }

/-- What the tests look at after a step: STATUS, the events and the payload. -/
def seen : Outcome State Fault Refusal → Option (Word × List Event × List Byte)
  | .next t => some (statusWord t.eng, t.events, t.eng.pay.toList)
  | .fault _ => none
  | .refused _ => none

/-- The engine's registers after a step. -/
def engineAfter : Outcome State Fault Refusal → Option Engine
  | .next t => some t.eng
  | .fault _ => none
  | .refused _ => none

/-! ### Command words (95_test_vectors.md L2.1) -/

theorem test_decode_init : decodeTableWord 32 0b00000000000000000000000000000000 = some (.init 0 ⟨0, 0, 0⟩) := by decide

theorem test_decode_write : decodeTableWord 32 0b00000000000000000010000000010001 = some (.write 0x0020 2 0) := by decide

theorem test_decode_write_long : decodeTableWord 32 0x00FFFF79 = some (.write 0xFFFF 15 0) := by decide

theorem test_decode_read : decodeTableWord 32 0b00000000000000000110001000000010 = some (.read 0x0062) := by decide

theorem test_decode_decode : decodeTableWord 32 0b00000000000000000000000000000011 = some .decode := by decide

theorem test_decode_reserved_ops :
    [0x4, 0x5, 0x6, 0x7, 0xFFFFFFFF].map (decodeTableWord 32) = [none, none, none, none, none] := by decide

/-! ### WellFormed refuses an ill-formed term of each check -/

theorem test_wellFormed_accepts :
    (wordIssue 0x00000000).wellFormed && (wordIssue 0x00FFFF79).wellFormed && (wordIssue 0x00FFFF02).wellFormed &&
      (wordIssue 0x00000003).wellFormed = true := by decide

theorem test_wellFormed_refuses_reserved_bits :
    (wordIssue 0x00000080).reservedZero = false ∧ (wordIssue 0x80000001).wellFormed = false := by decide

theorem test_wellFormed_refuses_reserved_op :
    (wordIssue 0x00000004).opAssigned = false ∧ (wordIssue 0x00000004).wellFormed = false := by decide

theorem test_wellFormed_refuses_len :
    (wordIssue 0x0000620A).lenAllowed = false ∧ (wordIssue 0x0000620A).wellFormed = false := by decide

theorem test_wellFormed_refuses_addr :
    (wordIssue 0x00000100).addrAllowed = false ∧ (wordIssue 0x00000100).wellFormed = false := by decide

theorem test_wellFormed_refuses_long_list :
    (Pseudo.writeBytes 0 [1, 2, 3, 4, 5, 6]).wellFormed = true ∧
      (Pseudo.writeBytes 0 [1, 2, 3, 4, 5, 6, 7]).wellFormed = false := by decide

/-! ### Vectors, one step each -/

/-- L2.2.2: INIT 3 with `BusStart → 1`. -/
theorem test_init_ok :
    engineAfter (exec (.init 3 ⟨2, 500000, 16000000⟩)
      { State.reset with script := { Script.none with start := ⟨[true], 0⟩ } }) =
    some { Engine.reset with
      phase := .ready, sendId := 0x000C0303, replyId := 0x000C0203, resCode := .ok } := by decide

/-- L2.2.6 with `BusStart → 0` as in L2.2.8: `send_id` wraps to 0, the identifiers are written even so. -/
theorem test_init_failed_wraps :
    engineAfter (exec (.init 0xFFF3FD00 ⟨0, 0, 0⟩)
      { State.reset with script := { Script.none with start := ⟨[false], 0⟩ } }) =
    some { Engine.reset with
      phase := .failed, sendId := 0x00000000, replyId := 0xFFFFFF00, resCode := .initFailure } := by decide

/-- L2.3.4: bytes 3 to 5 of P are not sent. -/
theorem test_write_three_bytes :
    seen (step (issued ready ⟨0x00123419, 0xFFFFFFCCBBAA, 0, ⟨0, 0, 0⟩⟩)) =
    some (0x00000011, [.txFrame ⟨0x000C0303, .extendedData, [0x34, 0x12, 0xAA, 0xBB, 0xCC]⟩],
      [0, 0, 0, 0, 0, 0]) := by decide

/-- L2.3.7: LEN 15 sends nothing. -/
theorem test_write_too_long :
    seen (step (issued ready ⟨0x00FFFF79, 0x060504030201, 0, ⟨0, 0, 0⟩⟩)) =
    some (0x00000051, [], [0, 0, 0, 0, 0, 0]) := by decide

/-- L3.1 event 3: the request, then the clock; BUSY with the previous result still shown. -/
theorem test_read_accepted :
    seen (step { issued ready (wordIssue 0x00006002) with script := { Script.none with clock := ⟨[1000], 0⟩ } }) =
    some (0x00000015,
      [.txFrame ⟨0x000C0303, .extendedData, [0x60, 0x00]⟩, .clockRead 1000], [0, 0, 0, 0, 0, 0]) := by decide

/-- L2.4.4: TIMEOUT across the clock wrap at elapsed 500, without a poll. -/
theorem test_poll_timeout_across_wrap :
    seen (step (awaiting 0xFFFFFF00 [0x000000F4] [true] [] [])) =
    some (0x00000031, [.clockRead 0xF4], [0, 0, 0, 0, 0, 0]) := by decide

/-- L2.4.4: elapsed 499 still polls. -/
theorem test_poll_open_across_wrap :
    seen (step (awaiting 0xFFFFFF00 [0x000000F3] [false] [] [])) =
    some (0x00000015, [.clockRead 0xF3, .busPoll false], [0, 0, 0, 0, 0, 0]) := by decide

/-- L2.5.9: a report of 9 reads 8 bytes; STATUS as after L2.5.8. -/
theorem test_poll_clamps_count :
    (seen (step (awaiting 0 [10] [true] [9] [0x62, 0x00, 1, 2, 3, 4, 5, 6, 7]))).map (fun x => (x.1, x.2.2)) =
    some (0x00000691, [1, 2, 3, 4, 5, 6]) := by decide

/-- L2.5.7: a negative count reads nothing and ends in ECHO_MISMATCH. -/
theorem test_poll_negative_count :
    seen (step (awaiting 0 [10] [true] [-1] [0x62, 0x00])) =
    some (0x00000041, [.clockRead 10, .busPoll true, .busAvail (-1)], [0, 0, 0, 0, 0, 0]) := by decide

/-- L2.5.3: the echo with its bytes swapped fails. -/
theorem test_poll_swapped_echo :
    (seen (step (awaiting 0 [10] [true] [4] [0x00, 0x62, 0xD2, 0x00]))).map (·.1) = some 0x00000041 := by decide

/-- L2.4.9 and L2.4.8: CLOCK_W = 16, and TIMEOUT_TICKS = 0. -/
theorem test_window_parameters :
    windowElapsed ⟨16, 500⟩ 0x01E3 0xFFF0 = false ∧ windowElapsed ⟨16, 500⟩ 0x01E4 0xFFF0 = true ∧
      windowElapsed ⟨32, 0⟩ 0 0 = true := by decide

/-- L2.6.4: 0x8000, not sign-extended. -/
theorem test_decode_two_bytes :
    (engineAfter (exec .decode (holding 2 0x00 0x80))).map (fun e => (e.decValid, e.decValue, e.resCode)) =
    some (true, 0x8000, .ok) := by decide

/-- L2.6.8: a length of 3 is refused. -/
theorem test_decode_three_bytes :
    (engineAfter (exec .decode (holding 3 0x01 0x02))).map (fun e => (e.decValid, e.decValue, e.resCode)) =
    some (false, 0x0000, .invalidArgument) := by decide

/-- L2.5.8: the CSR readout of a full payload. -/
theorem test_csr_payload :
    (csrValue { Engine.reset with pay := #v[1, 2, 3, 4, 5, 6] } 3,
      csrValue { Engine.reset with pay := #v[1, 2, 3, 4, 5, 6] } 4) = (0x04030201, 0x00000605) := by decide

/-- L1.3: STATUS at the end of the round trip. -/
theorem test_status_round_trip :
    statusWord { ready.eng with payValid := true, payLen := 2, decValid := true } = 0x00000A91 := by decide

/-- The placed word is what the next step runs, from reset. -/
theorem test_withFetchWord_runs :
    (∃ t, step (State.reset.withFetchWord 32 0x00000000) = .next t) ∧
      (seen (step (State.reset.withFetchWord 32 0x00000003))).map (·.1) = some 0x00000050 := ⟨⟨_, rfl⟩, by decide⟩

/-! ### Witnesses: each statement's hypotheses are met together -/

theorem moves_of_empty {s : State} (h : s.turns = []) : s.engineMoves [] := .inl ⟨h, rfl⟩

theorem witness_LegalWordIsItsEncoding : decode (wordIssue 0x00002011) = .ok (.write 0x0020 2 0) := rfl

/-- One issue for each clause of the list of illegal words. -/
theorem witness_IllegalWordRaisesOnlyIllegalCmd :
    (issued ready (wordIssue 0x4)).engineMoves [] ∧ (issued ready (wordIssue 0x4)).accepting ∧
      4 ≤ (wordIssue 0x4).opN ∧ (wordIssue 0x80).rsv0N ≠ 0 ∧ (wordIssue 0x01000002).rsv1N ≠ 0 ∧
      ((wordIssue 0x8).opN = 0 ∧ (wordIssue 0x8).lenN ≠ 0) ∧
      ((wordIssue 0x103).opN = 3 ∧ (wordIssue 0x103).addrN ≠ 0) ∧
      ((wordIssue 0x620A).opN = 2 ∧ (wordIssue 0x620A).lenN ≠ 0) :=
  ⟨moves_of_empty rfl, ⟨rfl, rfl⟩, by decide⟩

theorem witness_Write16FrameIsLittleEndian : ready.accepting ∧ ready.eng.phase = .ready := ⟨⟨rfl, rfl⟩, rfl⟩

theorem witness_StepRunsDecodedCommand :
    (issued ready (wordIssue 0x6202)).engineMoves [] ∧ (issued ready (wordIssue 0x6202)).accepting ∧
      (issued ready (wordIssue 0x6202)).issues = [wordIssue 0x6202] ∧
      decode (wordIssue 0x6202) = .ok (.read 0x0062) := ⟨moves_of_empty rfl, ⟨rfl, rfl⟩, rfl, rfl⟩

theorem witness_PollStepCompletesAndHoldsCommands :
    (awaiting 0 [] [] [] []).engineMoves [] ∧ (awaiting 0 [] [] [] []).polling := ⟨moves_of_empty rfl, rfl, rfl⟩

theorem witness_FaultedEngineHasNoStep :
    (ready.raise .reinit).engineMoves [] ∧ (ready.raise .reinit).eng.fault ≠ .none :=
  ⟨moves_of_empty rfl, by decide⟩

/-- Each of the two outcomes: a CSR read and a reset. -/
theorem witness_FaultStaysUntilReset :
    (ready.raise .reinit).eng.fault ≠ .none ∧
      (∃ t, step ((ready.raise .reinit).setTurns [.csrRead 0]) = .next t) ∧
      ∃ t, step ((ready.raise .reinit).setTurns [.reset]) = .next t := ⟨by decide, ⟨_, rfl⟩, _, rfl⟩

theorem witness_IdleEngineWaits : State.reset.engineMoves [] ∧ State.reset.endedWell :=
  ⟨moves_of_empty rfl, rfl, rfl, rfl⟩

theorem witness_CsrReadHasNoSideEffect : (ready.setTurns [.csrRead 15]).turns = [.csrRead 15] := rfl

theorem witness_ResetWritesEveryField : ((awaiting 0 [] [] [] []).setTurns [.reset]).turns = [.reset] := rfl

theorem witness_ParametersAndHistoryStay : ∃ t, step ready = .next t := ⟨_, rfl⟩

theorem witness_InitPostsStartResult : State.reset.accepting ∧ State.reset.eng.phase = .uninit := ⟨⟨rfl, rfl⟩, rfl⟩

theorem witness_IdentifierMapperAddsModulo : State.reset.accepting ∧ State.reset.eng.phase = .uninit :=
  ⟨⟨rfl, rfl⟩, rfl⟩

theorem witness_IdentifiersFixedAfterInit :
    (State.reset.eng.phase = .uninit ∧ ∃ t, exec (.init 0xFFFFFFFF ⟨0, 0, 0⟩) State.reset = .next t) ∧
      ready.eng.phase ≠ .uninit ∧ (∃ t, step ready = .next t) ∧ ∀ rest, ready.turns ≠ .reset :: rest :=
  ⟨⟨rfl, _, rfl⟩, by decide, ⟨_, rfl⟩, fun _ h => nomatch h⟩

/-- Each of the two clauses: a reset in phase READY, and INIT in phase UNINIT. -/
theorem witness_PhaseChangesOnlyByInitOrReset :
    (∃ t, step (ready.setTurns [.reset]) = .next t ∧ t.eng.phase ≠ .ready) ∧
      ∃ t, step { issued State.reset (wordIssue 0) with script := { Script.none with start := ⟨[true], 0⟩ } } =
        .next t ∧ t.eng.phase ≠ .uninit := ⟨⟨_, rfl, by decide⟩, _, rfl, by decide⟩

theorem witness_OutOfPhaseCommandOnlyFaults :
    ready.accepting ∧ ready.eng.phase ≠ .uninit ∧ State.reset.accepting ∧ State.reset.eng.phase ≠ .ready :=
  ⟨⟨rfl, rfl⟩, by decide, ⟨rfl, rfl⟩, by decide⟩

theorem witness_InitLeavesTheRest :
    (∃ t, exec (.init 3 BusCfg.default) State.reset = .next t) ∧ ∃ t, exec (.init 3 BusCfg.default) ready = .next t :=
  ⟨⟨_, rfl⟩, _, rfl⟩

theorem witness_WriteEmitsExactlyOneFrame :
    ready.accepting ∧ ready.eng.phase = .ready ∧ (6#4).toNat ≤ 6 := ⟨⟨rfl, rfl⟩, rfl, by decide⟩

theorem witness_OverlongWriteIsRejected :
    ready.accepting ∧ ready.eng.phase = .ready ∧ 6 < (7#4).toNat ∧
      ∃ t f, exec (.write 0xFFFF 6 0) ready = .next t ∧ t.events = ready.events ++ [.txFrame f] :=
  ⟨⟨rfl, rfl⟩, rfl, by decide, _, _, rfl, rfl⟩

theorem witness_UnsentPayloadBytesPlayNoPart :
    ∀ i, i < (2#4).toNat →
      (0x000000000960#48 >>> (8 * i)).setWidth 8 = (0xFFFFFFFF0960#48 >>> (8 * i)).setWidth 8 := by decide

/-- Three outcomes: out of phase, sent, too long. -/
theorem witness_WriteLeavesTheRest :
    (∃ t, exec (.write 0 0 0) State.reset = .next t) ∧ (∃ t, exec (.write 0 6 0) ready = .next t) ∧
      ∃ t, exec (.write 0 7 0) ready = .next t := ⟨⟨_, rfl⟩, ⟨_, rfl⟩, _, rfl⟩

theorem witness_ReadSendsRequestThenStartsTimer : ready.accepting ∧ ready.eng.phase = .ready := ⟨⟨rfl, rfl⟩, rfl⟩

theorem witness_EmptyWriteSendsReadRequest : ready.accepting ∧ ready.eng.phase = .ready := ⟨⟨rfl, rfl⟩, rfl⟩

theorem witness_ReadLeavesTheRest :
    (∃ t, exec (.read 0) State.reset = .next t) ∧ ∃ t, exec (.read 0xFFFF) ready = .next t := ⟨⟨_, rfl⟩, _, rfl⟩

/-- The window just elapsed: elapsed 500. -/
theorem witness_ElapsedWindowPostsTimeout :
    (awaiting 0 [500] [true] [] []).engineMoves [] ∧ (awaiting 0 [500] [true] [] []).polling ∧
      (awaiting 0 [500] [true] [] []).eng.t0 < 2 ^ (awaiting 0 [500] [true] [] []).params.clockW ∧
      ¬ (awaiting 0 [500] [true] [] []).windowOpen :=
  ⟨moves_of_empty rfl, ⟨rfl, rfl⟩, by decide, by unfold State.windowOpen; decide⟩

/-- The window just open: elapsed 499. -/
theorem witness_EmptyPollKeepsWaiting :
    (awaiting 0 [499] [false] [] []).engineMoves [] ∧ (awaiting 0 [499] [false] [] []).polling ∧
      (awaiting 0 [499] [false] [] []).eng.t0 < 2 ^ (awaiting 0 [499] [false] [] []).params.clockW ∧
      (awaiting 0 [499] [false] [] []).windowOpen ∧ (awaiting 0 [499] [false] [] []).nextPoll = false :=
  ⟨moves_of_empty rfl, ⟨rfl, rfl⟩, by decide, by unfold State.windowOpen; decide, by decide⟩

/-- A frame of the echo alone, the shortest that matches. -/
def echoOnly : State := awaiting 0 [499] [true] [2] [0x62, 0x00]

theorem witness_MatchingEchoDeliversPayload :
    echoOnly.engineMoves [] ∧ echoOnly.polling ∧ echoOnly.eng.t0 < 2 ^ echoOnly.params.clockW ∧
      echoOnly.windowOpen ∧ echoOnly.nextPoll = true ∧ ((2 : Nat) : Int) = min (max echoOnly.nextAvail 0) 8 ∧
      (echoOnly.nextBytes 2)[0]? = some (echoOnly.eng.reqAddr.setWidth 8) ∧
      (echoOnly.nextBytes 2)[1]? = some ((echoOnly.eng.reqAddr >>> 8).setWidth 8) :=
  ⟨moves_of_empty rfl, ⟨rfl, rfl⟩, by decide, by unfold State.windowOpen; decide, by decide, by decide, by decide,
    by decide⟩

/-- A frame of one byte, and one whose high byte differs. -/
theorem witness_OtherFrameEndsInMismatch :
    (awaiting 0 [499] [true] [1] [0x62]).windowOpen ∧ (awaiting 0 [499] [true] [1] [0x62]).nextPoll = true ∧
      (awaiting 0 [499] [true] [1] [0x62]).polling ∧ (awaiting 0 [499] [true] [1] [0x62]).engineMoves [] ∧
      (awaiting 0 [499] [true] [1] [0x62]).eng.t0 < 2 ^ (awaiting 0 [499] [true] [1] [0x62]).params.clockW ∧
      ((1 : Nat) : Int) = min (max (awaiting 0 [499] [true] [1] [0x62]).nextAvail 0) 8 ∧
      ((8 : Nat) : Int) = min (max (awaiting 0 [499] [true] [9] [0x62, 0x01]).nextAvail 0) 8 ∧
      ((awaiting 0 [499] [true] [9] [0x62, 0x01]).nextBytes 2)[1]? ≠ some ((0x0062#16 >>> 8).setWidth 8) :=
  ⟨by unfold State.windowOpen; decide, by decide, ⟨rfl, rfl⟩, moves_of_empty rfl, by decide, by decide, by decide,
    by decide⟩

theorem witness_AnswersComeInOrder :
    (⟨[true], 0⟩ : Answers Bool).given[0]? = some true ∧ echoOnly.script.byte.given = [0x62, 0x00] ++ [] := ⟨rfl, rfl⟩

/-- A `t0` and a `d` at the top of a 16-bit clock. -/
theorem witness_ElapsedIsTrueAcrossWrap : 0xFFFF < 2 ^ 16 ∧ 0xFFFF < 2 ^ 16 := by decide

/-- A result before that was another, and one that was TIMEOUT already. -/
theorem witness_TimeoutIsNeverEarly :
    (awaiting 0 [500] [] [] []).eng.t0 < 2 ^ (awaiting 0 [500] [] [] []).params.clockW ∧
      (∃ t, step (awaiting 0 [500] [] [] []) = .next t ∧ t.eng.resCode = .timeout ∧
        (awaiting 0 [500] [] [] []).eng.resCode ≠ .timeout) ∧
      ∃ t, step ((awaiting 0 [500] [] [] []).post .timeout) = .next t ∧ t.eng.resCode = .timeout ∧
        ((awaiting 0 [500] [] [] []).post .timeout).eng.resCode = .timeout ∧
        ((awaiting 0 [500] [] [] []).post .timeout).eng.seq = .awaitingReply ∧ t.eng.seq = .idle :=
  ⟨by decide, ⟨_, rfl, by decide, by decide⟩, _, rfl, by decide, rfl, rfl, rfl⟩

/-- The clock passes the window at the third answer to come. -/
theorem witness_ReadReturnsOnceWindowCloses :
    (awaiting 0 [1, 499, 500] [] [] []).polling ∧ (awaiting 0 [1, 499, 500] [] [] []).turns = [] ∧
      (awaiting 0 [1, 499, 500] [] [] []).eng.t0 < 2 ^ (awaiting 0 [1, 499, 500] [] [] []).params.clockW ∧
      (awaiting 0 [1, 499, 500] [] [] []).params.timeoutTicks ≤
        (answerAt (awaiting 0 [1, 499, 500] [] [] []).script.clock Config.freeClock 2 % 2 ^ 32 + 2 ^ 32 - 0) % 2 ^ 32 :=
  ⟨⟨rfl, rfl⟩, rfl, by decide, by decide⟩

theorem witness_IdentifiersPlayNoPartInPolling :
    (awaiting 0 [] [] [] []).engineMoves [] ∧ (awaiting 0 [] [] [] []).polling := ⟨moves_of_empty rfl, rfl, rfl⟩

/-- Both lengths. -/
theorem witness_DecodeGivesLittleEndianValue :
    (holding 2 0xD2 0x00).accepting ∧ (holding 2 0xD2 0x00).eng.payValid = true ∧
      (holding 2 0xD2 0x00).eng.payLen = 2 ∧ (holding 1 0xFF 0x00).accepting ∧
      (holding 1 0xFF 0x00).eng.payValid = true ∧ (holding 1 0xFF 0x00).eng.payLen = 1 :=
  ⟨⟨rfl, rfl⟩, rfl, rfl, ⟨rfl, rfl⟩, rfl, rfl⟩

/-- Lengths 0 and 3 beside the decodable ones, and no payload. -/
theorem witness_DecodeWithoutPayloadIsRefused :
    (holding 3 1 2).accepting ∧
      ¬ ((holding 3 1 2).eng.payValid = true ∧ ((holding 3 1 2).eng.payLen = 1 ∨ (holding 3 1 2).eng.payLen = 2)) ∧
      ¬ ((holding 0 0 0).eng.payValid = true ∧ ((holding 0 0 0).eng.payLen = 1 ∨ (holding 0 0 0).eng.payLen = 2)) ∧
      ¬ (State.reset.eng.payValid = true) := ⟨⟨rfl, rfl⟩, by decide, by decide, by decide⟩

theorem witness_DecodeRepeats :
    (∃ t, exec .decode (holding 2 0xD2 0x00) = .next t) ∧ ∃ t, exec .decode State.reset = .next t :=
  ⟨⟨_, rfl⟩, _, rfl⟩

theorem witness_DecodeLeavesTheRest :
    (∃ t, exec .decode (holding 2 0xD2 0x00) = .next t) ∧ ∃ t, exec .decode State.reset = .next t :=
  ⟨⟨_, rfl⟩, _, rfl⟩

/-- The premise is met by a state with a payload held and a READ outstanding, not only by the reset state. -/
def held : State :=
  { awaiting 7 [8] [true] [3] [0x62, 0x00, 0x05] with eng := { (awaiting 7 [] [] [] []).eng with
      payValid := true, payLen := 1, pay := #v[9, 0, 0, 0, 0, 0]
      rxBuf := #v[0x62, 0, 9, 0, 0, 0, 0, 0], rxCount := 3 } }

theorem witness_StepKeepsInvariant : held.Inv ∧ ∃ t, step held = .next t := by
  refine ⟨⟨?_, (fun f hf => nomatch hf), (fun v hv => nomatch hv)⟩, _, rfl⟩
  constructor <;> decide

theorem witness_FramesOnlyAtAcceptance :
    (∃ t, step (issued ready (wordIssue 0x00006202)) = .next t) ∧ ∃ t, step echoOnly = .next t :=
  ⟨⟨_, rfl⟩, _, rfl⟩

/-- An accepted command and a poll step. -/
theorem witness_OutcomesByCommand :
    ((issued ready (wordIssue 0x3)).engineMoves [] ∧ (issued ready (wordIssue 0x3)).accepting ∧
      (issued ready (wordIssue 0x3)).issues = [wordIssue 0x3] ∧
      ∃ t, step (issued ready (wordIssue 0x3)) = .next t) ∧
      echoOnly.engineMoves [] ∧ echoOnly.polling ∧ ∃ t, step echoOnly = .next t :=
  ⟨⟨moves_of_empty rfl, ⟨rfl, rfl⟩, rfl, _, rfl⟩, moves_of_empty rfl, ⟨rfl, rfl⟩, _, rfl⟩

theorem witness_FrameIsOneCallSequence : 2 < (encodeBody 0x0062 [0x05]).length := by decide

end Sys2Proof.Tests
end

namespace Sys2Proof.Machine

/-! ### The order of the environment's answers (00_scope.md R13, 10_state.md R36) -/

/-- Nothing is skipped where the given answers end: `answersAfter` moves the free values on by the same count. -/
@[simp] theorem answerAt_answersAfter {α : Type} (a : Answers α) (free : Nat → α) (k i : Nat) :
    answerAt (answersAfter a k) free i = answerAt a free (k + i) := by
  simp only [answerAt, answersAfter, List.getElem?_drop, Nat.add_assoc]

theorem answerAt_of_given {α : Type} {a : Answers α} {i : Nat} {x : α} (free : Nat → α)
    (hx : a.given[i]? = some x) : answerAt a free i = x := by
  simp only [answerAt, hx, Option.getD_some]

theorem getElem_nextBytes (s : State) {k i : Nat} (hi : i < (s.nextBytes k).length) :
    (s.nextBytes k)[i] = answerAt s.script.byte Config.freeByte i := by
  simp only [State.nextBytes, List.getElem_map, List.getElem_range]

/-- Byte by byte: the i-th byte of the drain is the i-th answer, which is the i-th given one. -/
theorem nextBytes_of_given {s : State} {bs more : List Byte} (hg : s.script.byte.given = bs ++ more) :
    s.nextBytes bs.length = bs := by
  refine List.ext_getElem (nextBytes_length s bs.length) fun i hi hbs => ?_
  have hgiven : s.script.byte.given[i]? = some bs[i] := by
    rw [hg, List.getElem?_append_left hbs, List.getElem?_eq_getElem hbs]
  rw [getElem_nextBytes s hi, answerAt_of_given _ hgiven]

/-- Settles O36: the two rules of `answerAt`, and from them the drain's bytes. -/
theorem answersComeInOrder : Obligations.AnswersComeInOrder := by
  refine ⟨fun α a free k i => ⟨answerAt_answersAfter a free k i, fun x hx => answerAt_of_given free hx⟩,
    fun s k => ⟨nextBytes_length s k, ?_⟩⟩
  rintro bs more hg rfl
  exact nextBytes_of_given hg

end Sys2Proof.Machine

namespace Sys2Proof.Machine

variable {s t : State} {p : Params} {e : Engine}

/-! ### What a step adds to the history and to the CSR values handed over -/

/-- The bounds that `State.Inv` puts on an event of the history (30_encoding.md R85, 10_state.md R37). -/
def Event.InRange (p : Params) : Event → Prop
  | .txFrame f => 2 ≤ f.body.length ∧ f.body.length ≤ Config.frameMax
  | .clockRead v => v < 2 ^ p.clockW
  | _ => True

theorem State.inv_iff :
    s.Inv ↔ Engine.Inv s.params s.eng ∧ ∀ ev ∈ s.events, Event.InRange s.params ev := by
  constructor
  · rintro ⟨heng, hframes, hclocks⟩
    refine ⟨heng, fun ev hev => ?_⟩
    cases ev with
    | txFrame f => exact hframes f hev
    | clockRead v => exact hclocks v hev
    | busConfigure | busStart | busPoll | busAvail | busReadByte => trivial
  · rintro ⟨heng, hevents⟩
    exact ⟨heng, fun f hf => hevents _ hf, fun v hv => hevents _ hv⟩

/-- The parameters stay, and the two lists of what was recorded and handed over only grow, the history by events
within their bounds. -/
structure State.Extends (s t : State) : Prop where
  params : t.params = s.params
  events : ∃ new, t.events = s.events ++ new ∧ ∀ ev ∈ new, Event.InRange s.params ev
  csrOut : ∃ new, t.csrOut = s.csrOut ++ new

theorem State.Extends.of_recorded (new : List Event) (hp : t.params = s.params)
    (he : t.events = s.events ++ new) (hc : t.csrOut = s.csrOut)
    (hnew : ∀ ev ∈ new, Event.InRange s.params ev) : s.Extends t :=
  ⟨hp, ⟨new, he, hnew⟩, [], by simp [hc]⟩

theorem State.Extends.of_quiet (hp : t.params = s.params) (he : t.events = s.events)
    (hc : t.csrOut = s.csrOut) : s.Extends t :=
  .of_recorded [] hp (by simp [he]) hc (by simp)

theorem State.Extends.inv (hx : s.Extends t) (hs : s.Inv) (he : Engine.Inv s.params t.eng) : t.Inv := by
  obtain ⟨hp, ⟨new, hev, hnew⟩, -⟩ := hx
  obtain ⟨-, hold⟩ := State.inv_iff.mp hs
  refine State.inv_iff.mpr ⟨hp ▸ he, fun ev hmem => ?_⟩
  rw [hev, List.mem_append] at hmem
  rw [hp]
  exact hmem.elim (hold ev) (hnew ev)

theorem nextClock_lt (s : State) : s.nextClock < 2 ^ s.params.clockW :=
  Nat.mod_lt _ (Nat.two_pow_pos _)

/-- The bytes of an addressed frame: the echo and the payload (30_encoding.md R83, R85). -/
theorem inRange_addressedFrame (p : Params) (id : Word) (a : RegAddr) {bs : List Byte}
    (hn : bs.length ≤ Config.payloadMax) : Event.InRange p (.txFrame (addressedFrame id a bs)) := by
  simp only [Event.InRange, addressedFrame, encodeBody, List.length_append, List.length_cons,
    List.length_nil, Config.payloadMax, Config.frameMax] at *
  omega

theorem ExecCase.extends {i : Instr} (h : ExecCase s t i) : s.Extends t := by
  cases h with
  | reinit a c _ ht | writeNotReady a n pl _ ht | writeTooLong a n pl _ _ ht | readNotReady a _ ht
  | decodes _ ht | decodeFails _ ht => subst ht; exact .of_quiet rfl rfl rfl
  | initRuns a c _ ht =>
    subst ht
    exact .of_recorded [.busConfigure c, .busStart s.nextStart] rfl (by simp [initRun]) rfl
      (by simp [Event.InRange])
  | writeSends a n pl _ hn ht =>
    subst ht
    refine .of_recorded _ rfl rfl rfl (List.forall_mem_singleton.mpr ?_)
    exact inRange_addressedFrame _ _ a (by rwa [payloadBytes_length])
  | readRuns a _ ht =>
    subst ht
    refine .of_recorded [.txFrame (addressedFrame s.eng.sendId a []), .clockRead s.nextClock] rfl
      (by simp [readRun]) rfl ?_
    exact List.forall_mem_cons.mpr ⟨inRange_addressedFrame _ _ a (Nat.zero_le _),
      List.forall_mem_singleton.mpr (nextClock_lt s)⟩

theorem clampCount_eq (n : Int) : ((clampCount n).val : Int) = min (max n 0) 8 := by
  simp only [clampCount]
  omega

theorem polled_extends (s : State) : s.Extends s.polled :=
  .of_recorded [.clockRead s.nextClock, .busPoll s.nextPoll] rfl (by simp [State.polled]) rfl
    (by simp [Event.InRange, nextClock_lt s])

theorem polled_drain_extends (s : State) : s.Extends s.polled.drain := by
  refine .of_recorded _ rfl ((polled_drain_events (clampCount_eq s.nextAvail)).trans (List.append_assoc ..)) rfl ?_
  simp [Event.InRange, nextClock_lt s, or_imp, forall_and]

/-- Judging a frame or giving up on one writes registers only. -/
theorem State.Extends.failRead (h : s.Extends t) (c : ResCode) : s.Extends (t.failRead c) :=
  ⟨h.params, h.events, h.csrOut⟩

theorem State.Extends.succeedRead (h : s.Extends t) : s.Extends t.succeedRead :=
  ⟨h.params, h.events, h.csrOut⟩

theorem clockRead_extends (s : State) : s.Extends s.clockRead :=
  .of_recorded [.clockRead s.nextClock] rfl rfl rfl (by simp [Event.InRange, nextClock_lt s])

theorem pollStep_extends (s : State) : s.Extends (pollStep s) := by
  cases pollStep_cases s with
  | timesOut _ ht => exact ht ▸ (clockRead_extends s).failRead _
  | waits _ _ ht => exact ht ▸ polled_extends s
  | succeeds _ _ _ ht => exact ht ▸ (polled_drain_extends s).succeedRead
  | mismatches _ _ _ ht => exact ht ▸ (polled_drain_extends s).failRead _

theorem step_extends (h : step s = .next t) : s.Extends t := by
  cases step_eq_next h with
  | reset rest _ ht | waits rest _ _ _ ht | illegal rest q qs _ _ _ _ _ ht =>
    subst ht
    exact .of_quiet rfl rfl rfl
  | csrRead n rest _ ht =>
    subst ht
    exact ⟨rfl, ⟨[], by simp⟩, _, rfl⟩
  | polls rest _ _ ht =>
    subst ht
    obtain ⟨hp, he, hc⟩ := pollStep_extends (s.setTurns rest)
    exact ⟨hp, he, hc⟩
  | command rest q qs i _ _ _ _ hx =>
    obtain ⟨hp, he, hc⟩ := hx.extends
    exact ⟨hp, he, hc⟩

/-! ### The registers keep their invariant (10_state.md R22 to R32) -/

theorem Engine.inv_reset (p : Params) : Engine.Inv p Engine.reset where
  t0_fits := Nat.two_pow_pos _
  awaiting_ready := by decide
  fault_idle := by decide
  ids_before := by decide
  ids_after := by decide
  none_uninit := by decide
  failure_failed := by decide
  value_ready := by decide
  no_value := by decide
  pay_empty := by decide
  pay_received := by decide
  pay_echoed := by decide
  rx_tail := fun i _ => rxOf_get [] i
  dec_empty := by decide

/-- A fault is raised at acceptance, when no READ is outstanding (60_exceptions.md R142). -/
theorem Engine.Inv.raise (h : Engine.Inv p e) (hs : e.seq = .idle) (f : FaultCode) :
    Engine.Inv p { e with fault := f } :=
  { h with fault_idle := fun _ => hs }

/-- OK and INVALID_ARGUMENT, the codes of WRITE and DECODE, say nothing about the phase or the payload. -/
theorem Engine.Inv.post (h : Engine.Inv p e) {c : ResCode} (hc : c = .ok ∨ c = .invalidArgument) :
    Engine.Inv p { e with resCode := c } :=
  { h with
    none_uninit := by rcases hc with rfl | rfl <;> simp
    failure_failed := by rcases hc with rfl | rfl <;> simp
    no_value := by rcases hc with rfl | rfl <;> simp }

theorem Engine.Inv.setDecoded (h : Engine.Inv p e) (b : Bool) (v : BitVec 16)
    (hr : b = true → e.phase = .ready) (hv : b = false → v = 0) :
    Engine.Inv p { e with decValid := b, decValue := v } :=
  { h with
    value_ready := fun hx => hx.elim (fun hp => h.value_ready (.inl hp)) hr
    dec_empty := hv }

/-- The identifier mapper leaves the bases' distance, whatever `bus_addr` is (40_init.md R92). -/
theorem idmap_sub_idmap (a : Word) : idmap Config.sendBase a - idmap Config.replyBase a = 0x100 := by
  simp only [idmap, Config.sendBase, Config.replyBase]
  bv_omega

/-- INIT runs from UNINIT, where no value is shown yet, so the failed start-up leaves none either (40_init.md R90). -/
theorem Engine.Inv.init (h : Engine.Inv p e) (hu : e.phase = .uninit) (hs : e.seq = .idle) (a : Word) (ok : Bool) :
    Engine.Inv p { e with
      sendId := idmap Config.sendBase a, replyId := idmap Config.replyBase a
      payValid := false, payLen := 0, pay := zeroPay
      phase := phaseAfterStart ok, resCode := resAfterStart ok } where
  t0_fits := h.t0_fits
  awaiting_ready := by simp [hs]
  fault_idle := h.fault_idle
  ids_before := by cases ok <;> simp [phaseAfterStart]
  ids_after := fun _ => idmap_sub_idmap a
  none_uninit := by cases ok <;> simp [resAfterStart]
  failure_failed := by cases ok <;> simp [resAfterStart, phaseAfterStart]
  value_ready := by
    have hd : e.decValid = false := by
      by_contra hd
      simpa [hu] using h.value_ready (.inr (by simpa using hd))
    simp [hd]
  no_value := fun _ => rfl
  pay_empty := fun _ => ⟨rfl, rfl⟩
  pay_received := nofun
  pay_echoed := nofun
  rx_tail := h.rx_tail
  dec_empty := h.dec_empty

/-- While the new READ is outstanding the payload shown is the previous one's, whose frame need not echo the new
address (42_read.md R110). -/
theorem Engine.Inv.awaitReply (h : Engine.Inv p e) (hf : e.fault = .none) (hr : e.phase = .ready) (a : RegAddr)
    {v : Nat} (hv : v < 2 ^ p.clockW) :
    Engine.Inv p { e with reqAddr := a, t0 := v, seq := .awaitingReply } :=
  { h with
    t0_fits := hv
    awaiting_ready := fun _ => hr
    fault_idle := fun hn => absurd hf hn
    pay_echoed := nofun }

section ReadReturns

variable {rx : Vector Byte 8} {k : Fin 9}

/-- No value on failure (42_read.md R121), whatever a drain has left in the receive buffer. -/
theorem Engine.Inv.failRead (h : Engine.Inv p e) {c : ResCode} (hc : c = .timeout ∨ c = .echoMismatch)
    (htail : ∀ i : Fin 8, k.val ≤ i.val → rx[i] = 0) :
    Engine.Inv p { e with
      rxBuf := rx, rxCount := k, payValid := false, payLen := 0, pay := zeroPay, seq := .idle, resCode := c } :=
  { h with
    awaiting_ready := nofun
    fault_idle := fun _ => rfl
    none_uninit := by rcases hc with rfl | rfl <;> simp
    failure_failed := by rcases hc with rfl | rfl <;> simp
    value_ready := fun hx => hx.elim nofun (fun hd => h.value_ready (.inr hd))
    no_value := fun _ => rfl
    pay_empty := fun _ => ⟨rfl, rfl⟩
    pay_received := nofun
    pay_echoed := nofun
    rx_tail := htail }

/-- The payload is what followed the matching echo in the frame drained (42_read.md R115, R116). -/
theorem Engine.Inv.succeedRead (h : Engine.Inv p e) (hr : e.phase = .ready)
    (htail : ∀ i : Fin 8, k.val ≤ i.val → rx[i] = 0)
    (hecho : echoOk { e with rxBuf := rx, rxCount := k } = true) :
    Engine.Inv p { e with
      rxBuf := rx, rxCount := k, payValid := true, payLen := payLenOf k, pay := payOf rx k
      seq := .idle, resCode := .ok } :=
  have hk : 2 ≤ k.val := by
    simp only [echoOk, Bool.and_eq_true, decide_eq_true_eq] at hecho
    exact hecho.1.1
  { h with
    awaiting_ready := nofun
    fault_idle := fun _ => rfl
    none_uninit := nofun
    failure_failed := nofun
    value_ready := fun _ => hr
    no_value := nofun
    pay_empty := nofun
    pay_received := fun _ => ⟨hk, Nat.sub_add_cancel hk, rfl⟩
    pay_echoed := fun _ _ => hecho
    rx_tail := htail }

end ReadReturns

/-! ### Every step keeps the invariant -/

theorem ExecCase.keeps_engineInv {i : Instr} (hx : ExecCase s t i) (ha : s.accepting)
    (h : Engine.Inv s.params s.eng) : Engine.Inv s.params t.eng := by
  obtain ⟨hf, hs⟩ := ha
  cases hx with
  | reinit a c _ ht | writeNotReady a n pl _ ht | readNotReady a _ ht => exact ht ▸ h.raise hs _
  | initRuns a c hu ht => exact ht ▸ h.init hu hs a s.nextStart
  | writeTooLong a n pl _ _ ht => exact ht ▸ h.post (.inr rfl)
  | writeSends a n pl _ _ ht => exact ht ▸ h.post (.inl rfl)
  | readRuns a hr ht => exact ht ▸ h.awaitReply hf hr a (nextClock_lt s)
  | decodes hd ht =>
    have hv : s.eng.payValid = true := (Bool.and_eq_true_iff.mp hd).1
    exact ht ▸ (h.setDecoded true (decodedValue s.eng) (fun _ => h.value_ready (.inl hv)) nofun).post (.inl rfl)
  | decodeFails _ ht => exact ht ▸ (h.setDecoded false 0 nofun fun _ => rfl).post (.inr rfl)

/-- Past the bytes a drain has read, the receive buffer is 0x00 (42_read.md R114). -/
theorem rxOf_nextBytes_tail (s : State) (k : Nat) (i : Fin 8) (hi : k ≤ i.val) : (rxOf (s.nextBytes k))[i] = 0 := by
  rw [rxOf_get, List.getD_eq_default _ _ (by rwa [nextBytes_length])]

theorem pollStep_keeps_engineInv (hp : s.polling) (h : Engine.Inv s.params s.eng) :
    Engine.Inv s.params (pollStep s).eng := by
  have hrx := polled_drain_rx (clampCount_eq s.nextAvail)
  have htail := rxOf_nextBytes_tail s (clampCount s.nextAvail).val
  cases pollStep_cases s with
  | timesOut _ ht => exact ht ▸ h.failRead (.inl rfl) h.rx_tail
  | waits _ _ ht => exact ht ▸ h
  | succeeds _ _ he ht =>
    rw [ht, State.succeedRead_eng, hrx]
    exact h.succeedRead (h.awaiting_ready hp.2) htail (hrx ▸ he)
  | mismatches _ _ _ ht =>
    rw [ht, State.failRead_eng, hrx]
    exact h.failRead (.inr rfl) htail

theorem step_keeps_engineInv (hstep : step s = .next t) (h : Engine.Inv s.params s.eng) :
    Engine.Inv s.params t.eng := by
  cases step_eq_next hstep with
  | reset rest _ ht => exact ht ▸ Engine.inv_reset _
  | csrRead n rest _ ht | waits rest _ _ _ ht => exact ht ▸ h
  | polls rest _ hp ht => exact ht ▸ pollStep_keeps_engineInv (s := s.setTurns rest) hp h
  | illegal rest q qs _ _ ha _ _ ht => exact ht ▸ h.raise ha.2 _
  | command rest q qs i _ ha _ _ hx => exact hx.keeps_engineInv ha h

/-- Settles O46: the registers keep their invariant, and the history grows by events within their bounds. -/
theorem stepKeepsInvariant : Obligations.StepKeepsInvariant :=
  fun _ _ hs hstep => (step_extends hstep).inv hs (step_keeps_engineInv hstep hs.eng)

/-- Settles O45. -/
theorem resetMeetsInvariant : Obligations.ResetMeetsInvariant :=
  State.inv_iff.mpr ⟨Engine.inv_reset _, nofun⟩

/-- Settles O18: what `step_extends` says, without the bounds on the new events. -/
theorem parametersAndHistoryStay : Obligations.ParametersAndHistoryStay := by
  intro s t hstep
  obtain ⟨hp, ⟨new, hev, -⟩, hc⟩ := step_extends hstep
  exact ⟨hp, ⟨new, hev⟩, hc⟩

/-! ### Acceptance, and the steps that run no command -/

/-- R35's two conditions are all that an acceptance asks: out of its phase a command still completes, by a fault. -/
theorem exec_completes (ha : s.accepting) (i : Instr) : ∃ t, exec i s = .next t := by
  cases i with
  | init a c => exact ⟨_, accept_of_accepting ha⟩
  | write a n p => exact ⟨_, accept_of_accepting ha⟩
  | read a => exact ⟨_, accept_of_accepting ha⟩
  | decode => exact ⟨_, accept_of_accepting ha⟩

/-- Settles O8. -/
theorem commandCompletesIffAccepting : Obligations.CommandCompletesIffAccepting :=
  fun _ i => ⟨fun ⟨_, ht⟩ => (exec_eq_next ht).1, fun ha => exec_completes ha i⟩

theorem acceptIssue_of_decode {q : Issue} {i : Instr} (hd : decode q = .ok i) (s : State) :
    acceptIssue q s = exec i s := by
  simp only [acceptIssue, hd]

/-- Settles O7. -/
theorem stepRunsDecodedCommand : Obligations.StepRunsDecodedCommand := by
  intro s rest q qs i hm ha hi hd
  calc step s = engineTurn (s.setTurns rest) := step_of_engineMoves hm
    _ = acceptIssue q ((s.setTurns rest).setIssues qs) := engineTurn_of_accepting (s := s.setTurns rest) ha hi
    _ = exec i ((s.setTurns rest).setIssues qs) := acceptIssue_of_decode hd _

theorem step_of_csrRead {n : Fin 16} {rest : List Turn} (hts : s.turns = .csrRead n :: rest) :
    step s = .next ((s.setTurns rest).csrRead n) := by
  simp only [step, takeTurn, hts]

/-- Settles O15. -/
theorem csrReadHasNoSideEffect : Obligations.CsrReadHasNoSideEffect :=
  fun _ _ _ hts => step_of_csrRead hts

/-- Settles O11: of the things a step can do, all but a reset and a CSR read need `fault` = NONE. -/
theorem faultStaysUntilReset : Obligations.FaultStaysUntilReset := by
  intro s t hf hstep
  cases step_eq_next hstep with
  | reset rest hm _ => exact .inl ⟨rest, hm⟩
  | csrRead n rest _ ht => exact .inr (ht ▸ ⟨rfl, rfl, rfl, rfl⟩)
  | waits rest _ ha _ _ => exact absurd ha.1 hf
  | polls rest _ hp _ => exact absurd hp.1 hf
  | illegal rest q qs _ _ ha _ _ _ => exact absurd ha.1 hf
  | command rest q qs i _ ha _ _ _ => exact absurd ha.1 hf

/-! ### Who writes `phase` (10_state.md R23) -/

theorem pollStep_phase (s : State) : (pollStep s).eng.phase = s.eng.phase := by
  have hrx := polled_drain_rx (clampCount_eq s.nextAvail)
  cases pollStep_cases s with
  | timesOut _ ht => rw [ht]; rfl
  | waits _ _ ht => rw [ht]; rfl
  | succeeds _ _ _ ht => rw [ht, State.succeedRead_eng, hrx]
  | mismatches _ _ _ ht => rw [ht, State.failRead_eng, hrx]

theorem ExecCase.phase {i : Instr} (h : ExecCase s t i) :
    t.eng.phase = s.eng.phase ∨
      (s.eng.phase = .uninit ∧ (∃ a c, i = .init a c) ∧ t.eng.phase = phaseAfterStart s.nextStart) := by
  cases h with
  | initRuns a c hp ht => exact .inr ⟨hp, ⟨a, c, rfl⟩, ht ▸ rfl⟩
  | reinit a c _ ht | writeNotReady a n p _ ht | writeTooLong a n p _ _ ht | writeSends a n p _ _ ht
  | readNotReady a _ ht | readRuns a _ ht | decodes _ ht | decodeFails _ ht => exact .inl (ht ▸ rfl)

/-- Settles O22: the two things a step can do that write `phase`. -/
theorem phaseChangesOnlyByInitOrReset : Obligations.PhaseChangesOnlyByInitOrReset := by
  intro s t hstep hne
  cases step_eq_next hstep with
  | reset rest hm ht => exact .inl ⟨rest, hm, ht ▸ rfl⟩
  | csrRead n rest _ ht | waits rest _ _ _ ht | illegal rest q qs _ _ _ _ _ ht => exact absurd (ht ▸ rfl) hne
  | polls rest _ _ ht => exact absurd (ht ▸ pollStep_phase (s.setTurns rest)) hne
  | command rest q qs i _ _ hi hd hx =>
    obtain hsame | ⟨hp, ⟨a, c, rfl⟩, hphase⟩ := hx.phase
    · exact absurd hsame hne
    · exact .inr ⟨hp, ⟨q, qs, a, c, hi, hd⟩, hphase⟩

/-! ### The CSR file and STATUS as numbers (10_state.md R33, R34) -/

/-- A byte put above a word that does not reach it adds its value at its place. -/
theorem byte_shiftLeft_or_toNat (b : Byte) {w : Word} {k : Nat} (hk : k ≤ 24) (hw : w.toNat < 2 ^ k) :
    (b.setWidth 32 <<< k ||| w).toNat = b.toNat * 2 ^ k + w.toNat := by
  have hb : b.toNat <<< k < 2 ^ 32 := calc
    b.toNat <<< k = b.toNat * 2 ^ k := Nat.shiftLeft_eq ..
    _ < 2 ^ 8 * 2 ^ k := Nat.mul_lt_mul_of_pos_right b.isLt (Nat.two_pow_pos k)
    _ = 2 ^ (8 + k) := (pow_add 2 8 k).symm
    _ ≤ 2 ^ 32 := Nat.pow_le_pow_right (by decide) (by omega)
  rw [BitVec.toNat_or, BitVec.toNat_shiftLeft, BitVec.toNat_setWidth_of_le (by decide), Nat.mod_eq_of_lt hb,
    shiftLeft_or_toNat hw]

theorem csrValue_three_toNat (e : Engine) :
    (csrValue e 3).toNat =
      e.pay[0].toNat + 2 ^ 8 * e.pay[1].toNat + 2 ^ 16 * e.pay[2].toNat + 2 ^ 24 * e.pay[3].toNat := by
  have h0 : (e.pay[0].setWidth 32).toNat = e.pay[0].toNat := BitVec.toNat_setWidth_of_le (by decide)
  have h1 := byte_shiftLeft_or_toNat e.pay[1] (w := e.pay[0].setWidth 32) (k := 8) (by decide) (by omega)
  have h2 := byte_shiftLeft_or_toNat e.pay[2] (w := e.pay[1].setWidth 32 <<< 8 ||| e.pay[0].setWidth 32) (k := 16)
    (by decide) (by omega)
  have h3 := byte_shiftLeft_or_toNat e.pay[3]
    (w := e.pay[2].setWidth 32 <<< 16 ||| (e.pay[1].setWidth 32 <<< 8 ||| e.pay[0].setWidth 32)) (k := 24)
    (by decide) (by omega)
  have hcsr : csrValue e 3 = e.pay[3].setWidth 32 <<< 24 |||
      (e.pay[2].setWidth 32 <<< 16 ||| (e.pay[1].setWidth 32 <<< 8 ||| e.pay[0].setWidth 32)) := by
    simp only [← BitVec.or_assoc]
    rfl
  rw [hcsr]
  omega

theorem csrValue_four_toNat (e : Engine) :
    (csrValue e 4).toNat = e.pay[4].toNat + 2 ^ 8 * e.pay[5].toNat := by
  have h4 : (e.pay[4].setWidth 32).toNat = e.pay[4].toNat := BitVec.toNat_setWidth_of_le (by decide)
  have h5 := byte_shiftLeft_or_toNat e.pay[5] (w := e.pay[4].setWidth 32) (k := 8) (by decide) (by omega)
  rw [show csrValue e 4 = e.pay[5].setWidth 32 <<< 8 ||| e.pay[4].setWidth 32 from rfl]
  omega

theorem csrValue_reserved (e : Engine) {n : Fin 16} (hn : 6 ≤ n.val) : csrValue e n = 0 := by
  obtain ⟨n, hlt⟩ := n
  obtain ⟨m, rfl⟩ := Nat.exists_eq_add_of_le' hn
  rfl

/-- Settles O13. -/
theorem csrFileShowsRegisters : Obligations.CsrFileShowsRegisters :=
  fun e => ⟨rfl, rfl, rfl, csrValue_three_toNat e, csrValue_four_toNat e,
    BitVec.toNat_setWidth_of_le (by decide), fun _ hn => csrValue_reserved e hn⟩

theorem phaseCode_lt (p : Phase) : (phaseCode p).toNat < 3 := by cases p <;> decide

theorem resCodeBits_lt (c : ResCode) : (resCodeBits c).toNat < 6 := by cases c <;> decide

/-- Settles O14: STATUS is the sum of its fields at their places, and no field reaches the next one's. -/
theorem statusFieldsStandInPlace : Obligations.StatusFieldsStandInPlace := by
  refine ⟨fun e => ?_, by decide⟩
  have hsum := statusWord_toNat e
  have hphase := phaseCode_lt e.phase
  have hbusy := (busyBit e.seq).isLt
  have hres := resCodeBits_lt e.resCode
  have hpay := e.payValid.toNat_lt
  have hlen := e.payLen.isLt
  have hdec := e.decValid.toNat_lt
  have hfault := (faultBits e.fault).isLt
  refine ⟨?phase, ?busy, by omega, ?res, by omega, by omega, by omega, ?fault, by omega, by omega, by omega,
    by omega⟩
  case phase =>
    trans (phaseCode e.phase).toNat
    · omega
    · cases e.phase <;> rfl
  case busy =>
    trans (busyBit e.seq).toNat
    · omega
    · cases e.seq <;> rfl
  case res =>
    trans (resCodeBits e.resCode).toNat
    · omega
    · cases e.resCode <;> rfl
  case fault =>
    trans (faultBits e.fault).toNat
    · omega
    · cases e.fault <;> rfl

end Sys2Proof.Machine

namespace Sys2Proof.Machine

variable {s t : State} {e : Engine} {new : List Event}

/-! ### What a step puts on the bus and takes from it (20_memory.md R63) -/

/-- The event neither transmits nor looks at the receive side. -/
def Event.Quiet (ev : Event) : Prop := ev.isFrame = false ∧ ev.isReceive = false

/-- The command is a READ or a WRITE at the address `a`. -/
def Instr.Addresses (i : Instr) (a : RegAddr) : Prop := i = .read a ∨ ∃ n p, i = .write a n p

/-- `new` is one frame of the READ or WRITE `i`, sent in phase READY by an engine with the registers `e`, and quiet
events after it (41_write.md R101, 42_read.md R110). -/
inductive Transmits (e : Engine) (i : Instr) (new : List Event) : Prop
  | intro (a : RegAddr) (bs : List Byte) (after : List Event) (hp : e.phase = .ready)
      (hi : Instr.Addresses i a) (hn : bs.length ≤ Config.payloadMax)
      (hnew : new = .txFrame (addressedFrame e.sendId a bs) :: after) (hq : ∀ ev ∈ after, ev.Quiet)

theorem ExecCase.quiet_or_transmits {i : Instr} (h : ExecCase s t i) :
    ∃ new, t.events = s.events ++ new ∧ ((∀ ev ∈ new, ev.Quiet) ∨ Transmits s.eng i new) := by
  cases h with
  | reinit a c _ ht | writeNotReady a n p _ ht | writeTooLong a n p _ _ ht | readNotReady a _ ht
  | decodes _ ht | decodeFails _ ht => exact ⟨[], by simp [ht], .inl nofun⟩
  | initRuns a c _ ht =>
    exact ⟨[.busConfigure c, .busStart s.nextStart], by simp [ht, initRun],
      .inl (by simp [Event.Quiet, Event.isFrame, Event.isReceive])⟩
  | writeSends a n p hp hn ht =>
    exact ⟨_, congrArg State.events ht,
      .inr (.intro a _ [] hp (.inr ⟨n, p, rfl⟩) (by rwa [payloadBytes_length]) rfl nofun)⟩
  | readRuns a hp ht =>
    exact ⟨[.txFrame (addressedFrame s.eng.sendId a []), .clockRead s.nextClock], by simp [ht, readRun],
      .inr (.intro a [] _ hp (.inl rfl) (Nat.zero_le _) rfl
        (by simp [Event.Quiet, Event.isFrame, Event.isReceive]))⟩

theorem pollStep_sends_no_frame (s : State) :
    ∃ new, (pollStep s).events = s.events ++ new ∧ ∀ ev ∈ new, ev.isFrame = false := by
  have hdrain := (polled_drain_events (clampCount_eq s.nextAvail)).trans (List.append_assoc ..)
  cases pollStep_cases s with
  | timesOut _ ht => exact ⟨[.clockRead s.nextClock], ht ▸ rfl, by simp [Event.isFrame]⟩
  | waits _ _ ht =>
    exact ⟨[.clockRead s.nextClock, .busPoll s.nextPoll], by simp [ht, State.polled], by simp [Event.isFrame]⟩
  | succeeds _ _ _ ht | mismatches _ _ _ ht =>
    exact ⟨_, (congrArg State.events ht).trans hdrain, by simp [Event.isFrame, or_imp, forall_and]⟩

/-- What a step can do on the bus: without a frame, it looks at the receive side only while a READ is outstanding;
with one, it accepts a command that transmits it. -/
inductive StepTraffic (s : State) (new : List Event) : Prop
  | noFrame (hf : ∀ ev ∈ new, ev.isFrame = false) (hr : ∀ ev ∈ new, ev.isReceive = true → s.polling)
  | transmits (q : Issue) (qs : List Issue) (i : Instr) (ha : s.accepting) (hi : s.issues = q :: qs)
      (hd : decode q = .ok i) (hx : Transmits s.eng i new)

theorem StepTraffic.of_quiet (hq : ∀ ev ∈ new, ev.Quiet) : StepTraffic s new :=
  .noFrame (fun ev hev => (hq ev hev).1) fun ev hev hr => absurd hr (by simp [(hq ev hev).2])

theorem step_traffic (h : step s = .next t) : ∃ new, t.events = s.events ++ new ∧ StepTraffic s new := by
  cases step_eq_next h with
  | reset rest _ ht | csrRead n rest _ ht | waits rest _ _ _ ht | illegal rest q qs _ _ _ _ _ ht =>
    exact ⟨[], by simp [ht], .of_quiet nofun⟩
  | polls rest _ hp ht =>
    obtain ⟨new, hev, hf⟩ := pollStep_sends_no_frame (s.setTurns rest)
    exact ⟨new, ht ▸ hev, .noFrame hf fun _ _ _ => hp⟩
  | command rest q qs i _ ha hi hd hx =>
    obtain ⟨new, hev, hq | htx⟩ := hx.quiet_or_transmits
    · exact ⟨new, hev, .of_quiet hq⟩
    · exact ⟨new, hev, .transmits q qs i ha hi hd htx⟩

/-! ### The frame of an acceptance -/

theorem filter_isFrame_of_noFrame (h : ∀ ev ∈ new, ev.isFrame = false) : new.filter Event.isFrame = [] :=
  List.filter_eq_nil_iff.mpr fun ev hev => by simp [h ev hev]

theorem txFrame_notMem_of_noFrame (h : ∀ ev ∈ new, ev.isFrame = false) (f : Frame) : .txFrame f ∉ new :=
  fun hf => absurd (h _ hf) nofun

/-- The body opens with the address, low byte first (30_encoding.md R83). -/
theorem addressedFrame_opens_with_address (id : Word) (a : RegAddr) (bs : List Byte) :
    (addressedFrame id a bs).body[0]? = some (a.setWidth 8) ∧
      (addressedFrame id a bs).body[1]? = some ((a >>> 8).setWidth 8) :=
  ⟨congrArg some (lowByte_eq a), congrArg some (highByte_eq a)⟩

/-- Settles O47: of the things a step can do on the bus, only a READ or WRITE accepted in phase READY brings a frame,
the first of its events. -/
theorem framesOnlyAtAcceptance : Obligations.FramesOnlyAtAcceptance := by
  intro s t hstep
  obtain ⟨new, hev, htraffic⟩ := step_traffic hstep
  refine ⟨new, hev, ?_⟩
  cases htraffic with
  | noFrame hf hr =>
    refine ⟨by simp [filter_isFrame_of_noFrame hf], fun f hmem => absurd hmem (txFrame_notMem_of_noFrame hf f), ?_⟩
    exact fun ⟨ev, hmem, hrecv⟩ => hr ev hmem hrecv
  | transmits q qs i ha hi hd hx =>
    obtain ⟨a, bs, after, hp, haddr, hn, rfl, hq⟩ := hx
    have hno : ∀ ev ∈ after, ev.isFrame = false := fun ev hmem => (hq ev hmem).1
    refine ⟨?_, fun f hmem => ?_, ?_⟩
    · rw [List.filter_cons_of_pos rfl, filter_isFrame_of_noFrame hno]
      exact le_rfl
    · obtain rfl : f = addressedFrame s.eng.sendId a bs := by
        simpa [txFrame_notMem_of_noFrame hno f] using hmem
      obtain ⟨hmin, hmax⟩ := inRange_addressedFrame s.params s.eng.sendId a hn
      refine ⟨ha, hp, rfl, hmin, hmax, q, qs, a, hi, ?_, addressedFrame_opens_with_address _ a bs⟩
      obtain rfl | ⟨n, p, rfl⟩ := haddr
      · exact .inl hd
      · exact .inr ⟨n, p, hd⟩
    · rintro ⟨ev, hmem, hrecv⟩
      obtain rfl | hmem := List.mem_cons.mp hmem
      · exact nomatch hrecv
      · simp [(hq ev hmem).2] at hrecv

end Sys2Proof.Machine

namespace Sys2Proof

/-! ### Which issues decode, and to what (30_encoding.md R78, R81) -/

/-- The legal words (30_encoding.md R71 to R74), each with the command it stands for and that command's operands. -/
inductive LegalCase (q : Issue) : Instr → Prop
  | init (hw : q.cmd = cmdWord 0 0 0b000#3) : LegalCase q (.init q.busAddr q.busCfg)
  | write (addr : RegAddr) (len : BitVec 4) (hw : q.cmd = cmdWord addr len 0b001#3) :
      LegalCase q (.write addr len q.payload)
  | read (addr : RegAddr) (hw : q.cmd = cmdWord addr 0 0b010#3) : LegalCase q (.read addr)
  | decode (hw : q.cmd = cmdWord 0 0 0b011#3) : LegalCase q .decode

theorem eq_cmdWord_of_reserved_zero {w : Word} (h0 : fieldRsv0 w = 0) (h1 : fieldRsv1 w = 0) :
    w = cmdWord (fieldAddr w) (fieldLen w) (fieldOp w) := by
  conv_lhs => rw [cmd_eq_fields w, h0, h1]
  rfl

theorem legalCase_of_decode {q : Issue} {i : Instr} (h : decode q = .ok i) : LegalCase q i := by
  unfold decode at h
  split_ifs at h with hrsv hop hlen haddr hop hop hlen hop hlen haddr <;> obtain rfl := Except.ok.inj h
  all_goals
    have hw := eq_cmdWord_of_reserved_zero (not_not.mp (hrsv <| .inl ·)) (not_not.mp (hrsv <| .inr ·))
    rw [hop] at hw
  · exact .init (by rw [hw, not_not.mp hlen, not_not.mp haddr])
  · exact .write _ _ hw
  · exact .read _ (by rw [← not_not.mp hlen]; exact hw)
  · exact .decode (by rw [hw, not_not.mp hlen, not_not.mp haddr])

theorem decode_of_legalCase {q : Issue} {i : Instr} (h : LegalCase q i) : decode q = .ok i := by
  cases h with
  | init hw | write addr len hw | read addr hw | decode hw =>
    simp [decode, hw, fieldOp_cmdWord, fieldLen_cmdWord, fieldAddr_cmdWord, fieldRsv0_cmdWord, fieldRsv1_cmdWord]

/-- Said once what the decoder accepts. -/
theorem decode_eq_ok {q : Issue} {i : Instr} : decode q = .ok i ↔ LegalCase q i :=
  ⟨legalCase_of_decode, decode_of_legalCase⟩

/-- Settles O3: what the encoder writes is the command's legal word. -/
theorem decodeOfEncodeIsIdentity : Obligations.DecodeOfEncodeIsIdentity := by
  intro i
  refine decode_eq_ok.mpr ?_
  cases i with
  | init busAddr cfg => exact .init rfl
  | write addr len payload => exact .write addr len rfl
  | read addr => exact .read addr rfl
  | decode => exact .decode rfl

/-- Settles O4: the encoder writes the one legal word from which the command decodes. -/
theorem legalWordIsItsEncoding : Obligations.LegalWordIsItsEncoding := by
  intro q i h
  cases decode_eq_ok.mp h with
  | init hw => exact ⟨hw.symm, rfl, rfl⟩
  | write addr len hw => exact ⟨hw.symm, rfl⟩
  | read addr hw | decode hw => exact ⟨hw.symm, trivial⟩

/-! ### The decoder's tests as tests of numbers -/

theorem fieldLen_eq (w : Word) : fieldLen w = BitVec.ofNat 4 (w.toNat / 8) :=
  BitVec.eq_of_toNat_eq (by rw [fieldLen_toNat, BitVec.toNat_ofNat])

theorem fieldAddr_eq (w : Word) : fieldAddr w = BitVec.ofNat 16 (w.toNat / 256) :=
  BitVec.eq_of_toNat_eq (by rw [fieldAddr_toNat, BitVec.toNat_ofNat])

theorem fieldOp_eq_iff (w : Word) (op : BitVec 3) : fieldOp w = op ↔ w.toNat % 8 = op.toNat := by
  rw [← BitVec.toNat_inj, fieldOp_toNat]

theorem fieldLen_eq_zero (w : Word) : fieldLen w = 0 ↔ w.toNat / 8 % 16 = 0 := by
  rw [← BitVec.toNat_inj, fieldLen_toNat]; rfl

theorem fieldAddr_eq_zero (w : Word) : fieldAddr w = 0 ↔ w.toNat / 256 % 65536 = 0 := by
  rw [← BitVec.toNat_inj, fieldAddr_toNat]; rfl

theorem fieldRsv0_eq_zero (w : Word) : fieldRsv0 w = 0 ↔ w.toNat / 128 % 2 = 0 := by
  rw [← BitVec.toNat_inj, fieldRsv0_toNat]; rfl

theorem fieldRsv1_eq_zero (w : Word) : fieldRsv1 w = 0 ↔ w.toNat / 2 ^ 24 = 0 := by
  rw [← BitVec.toNat_inj, fieldRsv1_toNat]; rfl

/-- Settles O2: each test of the decoder is the procedure's test of the same field as a number. -/
theorem decodeFollowsFieldProcedure : Obligations.DecodeFollowsFieldProcedure := by
  intro q
  rw [← fieldLen_eq, ← fieldAddr_eq]
  simp only [decode, ne_eq, fieldRsv0_eq_zero, fieldRsv1_eq_zero, fieldOp_eq_iff, fieldLen_eq_zero, fieldAddr_eq_zero]
  by_cases hrsv : ¬ q.cmd.toNat / 128 % 2 = 0 ∨ ¬ q.cmd.toNat / 2 ^ 24 = 0
  · simp only [if_pos hrsv]
  · simp only [if_neg hrsv]
    generalize q.cmd.toNat % 8 = op
    match op with
    | 0 | 3 =>
      by_cases hlen : q.cmd.toNat / 8 % 16 = 0 <;> by_cases haddr : q.cmd.toNat / 256 % 65536 = 0 <;>
        simp [hlen, haddr]
    | 1 => rfl
    | 2 => by_cases hlen : q.cmd.toNat / 8 % 16 = 0 <;> simp [hlen]
    | n + 4 => simp

/-! ### The list of illegal words -/

/-- The fields of a legal word as numbers: those of the field table (30_encoding.md R71). -/
theorem fields_of_cmdWord {q : Issue} {addr : RegAddr} {len : BitVec 4} {op : BitVec 3}
    (hw : q.cmd = cmdWord addr len op) :
    q.opN = op.toNat ∧ q.lenN = len.toNat ∧ q.rsv0N = 0 ∧ q.addrN = addr.toNat ∧ q.rsv1N = 0 := by
  refine ⟨?_, ?_, ?_, ?_, ?_⟩
  · rw [Issue.opN, ← fieldOp_toNat, hw, fieldOp_cmdWord]
  · rw [Issue.lenN, ← fieldLen_toNat, hw, fieldLen_cmdWord]
  · rw [Issue.rsv0N, ← fieldRsv0_toNat, hw, fieldRsv0_cmdWord]; rfl
  · rw [Issue.addrN, ← fieldAddr_toNat, hw, fieldAddr_cmdWord]
  · rw [Issue.rsv1N, ← fieldRsv1_toNat, hw, fieldRsv1_cmdWord]; rfl

theorem wellFormed_of_legalCase {q : Issue} {i : Instr} (h : LegalCase q i) : q.wellFormed = true := by
  cases h with
  | init hw | write addr len hw | read addr hw | decode hw =>
    obtain ⟨hop, hlen, hrsv0, haddr, hrsv1⟩ := fields_of_cmdWord hw
    simp [Issue.wellFormed, Issue.reservedZero, Issue.opAssigned, Issue.lenAllowed, Issue.addrAllowed, hop, hlen,
      hrsv0, haddr, hrsv1]

theorem decode_of_not_wellFormed {q : Issue} (h : q.wellFormed = false) : ∃ e, decode q = .error e := by
  cases hd : decode q with
  | error e => exact ⟨e, rfl⟩
  | ok i => simp [wellFormed_of_legalCase (decode_eq_ok.mp hd)] at h

/-- The clauses of R79's list of illegal words are the checks of `wellFormed` that can fail. -/
theorem wellFormed_eq_false_iff (q : Issue) : q.wellFormed = false ↔
    4 ≤ q.opN ∨ q.rsv0N ≠ 0 ∨ q.rsv1N ≠ 0 ∨
      ((q.opN = 0 ∨ q.opN = 3) ∧ (q.lenN ≠ 0 ∨ q.addrN ≠ 0)) ∨ (q.opN = 2 ∧ q.lenN ≠ 0) := by
  rw [← Bool.not_eq_true]
  simp only [Issue.wellFormed, Issue.reservedZero, Issue.opAssigned, Issue.lenAllowed, Issue.addrAllowed,
    Bool.and_eq_true, Bool.or_eq_true, beq_iff_eq, decide_eq_true_eq]
  omega

end Sys2Proof

namespace Sys2Proof.Machine

variable {s : State}

theorem acceptIssue_of_error (ha : s.accepting) {q : Issue} {e : DecodeError} (hd : decode q = .error e) :
    acceptIssue q s = .next (s.raise .illegalCmd) := by
  simp only [acceptIssue, hd, accept_of_accepting ha]

/-- Settles O5: a word on the list is not well-formed, so it does not decode. -/
theorem illegalWordRaisesOnlyIllegalCmd : Obligations.IllegalWordRaisesOnlyIllegalCmd := by
  intro s rest q qs hm ha hi hq
  obtain ⟨e, hd⟩ := decode_of_not_wellFormed ((wellFormed_eq_false_iff q).mpr hq)
  calc step s = engineTurn (s.setTurns rest) := step_of_engineMoves hm
    _ = acceptIssue q ((s.setTurns rest).setIssues qs) := engineTurn_of_accepting (s := s.setTurns rest) ha hi
    _ = .next (((s.setTurns rest).setIssues qs).raise .illegalCmd) :=
      acceptIssue_of_error (s := (s.setTurns rest).setIssues qs) ha hd

/-! ### WRITE and its payload operand (30_encoding.md R76, R83, R87) -/

theorem payloadByte_packPayload_zero (b : Byte) (bs : List Byte) : payloadByte (packPayload (b :: bs)) 0 = b := by
  apply BitVec.eq_of_getLsbD_eq
  intro j hj
  simp [payloadByte, packPayload, hj, show j < 48 by omega]

theorem payloadByte_packPayload_succ (b : Byte) (bs : List Byte) {i : Nat} (hi : i + 1 < 6) :
    payloadByte (packPayload (b :: bs)) (i + 1) = payloadByte (packPayload bs) i := by
  apply BitVec.eq_of_getLsbD_eq
  intro j hj
  have hshift : 8 * (i + 1) + j = 8 * i + j + 8 := by omega
  have hb : b.getLsbD (8 * i + j + 8) = false := BitVec.getLsbD_of_ge _ _ (by omega)
  simp only [payloadByte, packPayload, BitVec.getLsbD_extractLsb', BitVec.getLsbD_or, BitVec.getLsbD_setWidth,
    BitVec.getLsbD_shiftLeft, hshift, hb]
  simp [show 8 * i + j + 8 < 48 by omega]

/-- P holds byte i of the list at P[8i+7:8i] (30_encoding.md R76). -/
theorem payloadByte_packPayload (bs : List Byte) {i : Nat} (hi : i < bs.length) (h6 : i < 6) :
    payloadByte (packPayload bs) i = bs[i] := by
  induction bs generalizing i with
  | nil => exact absurd hi (Nat.not_lt_zero i)
  | cons b bs ih =>
    cases i with
    | zero => exact payloadByte_packPayload_zero b bs
    | succ i =>
      rw [payloadByte_packPayload_succ b bs h6]
      exact ih (Nat.lt_of_succ_lt_succ hi) (by omega)

theorem payloadBytes_packPayload {bs : List Byte} (h : bs.length ≤ Config.payloadMax) :
    payloadBytes (packPayload bs) bs.length = bs := by
  refine List.ext_getElem (payloadBytes_length _ _) fun i hi hbs => ?_
  simp only [payloadBytes, List.getElem_map, List.getElem_range]
  exact payloadByte_packPayload bs hbs (hbs.trans_le h)

/-- A WRITE of at most 6 bytes sends its frame and posts OK (41_write.md R101). -/
theorem exec_write_sends (ha : s.accepting) (hp : s.eng.phase = .ready) (a : RegAddr) {n : BitVec 4} (p : Payload)
    (hn : n.toNat ≤ Config.payloadMax) :
    exec (.write a n p) s = .next ((s.txFrame a (payloadBytes p n.toNat)).post .ok) := by
  rw [exec_write_of_ready ha hp, writeRun, if_neg (not_lt.mpr hn)]

theorem encodeBody_eq (a : RegAddr) (bs : List Byte) :
    encodeBody a bs = [a.setWidth 8, (a >>> 8).setWidth 8] ++ bs := by
  rw [encodeBody, lowByte_eq, highByte_eq]

/-- Settles O6: the bytes packed into P come back out of it, low byte first. -/
theorem write16FrameIsLittleEndian : Obligations.Write16FrameIsLittleEndian := by
  intro s addr v ha hp
  have hbytes : payloadBytes (packPayload [lowByte v, highByte v]) (2#4).toNat =
      [v.setWidth 8, (v >>> 8).setWidth 8] := by
    rw [← lowByte_eq, ← highByte_eq]
    exact payloadBytes_packPayload (bs := [lowByte v, highByte v]) (Nat.le_add_left 2 4)
  refine ⟨.write addr 2#4 (packPayload [lowByte v, highByte v]), rfl, ?_⟩
  rw [exec_write_sends ha hp addr _ (by decide), hbytes, State.txFrame, addressedFrame, encodeBody_eq]
  rfl

/-- Settles O27: a WRITE looks at P only through its first n bytes. -/
theorem unsentPayloadBytesPlayNoPart : Obligations.UnsentPayloadBytesPlayNoPart := by
  intro s addr n p p' h
  have hbytes : payloadBytes p n.toNat = payloadBytes p' n.toNat :=
    List.map_congr_left fun i hi => by
      rw [payloadByte_eq, payloadByte_eq, h i (List.mem_range.mp hi)]
  simp only [exec, execWrite, writeRun, hbytes]

/-- Settles O30: both send the address alone (30_encoding.md R83). -/
theorem emptyWriteSendsReadRequest : Obligations.EmptyWriteSendsReadRequest := by
  intro s addr p ha hp
  refine ⟨_, _, addressedFrame s.eng.sendId addr [], s.nextClock,
    exec_write_sends ha hp addr p (Nat.zero_le _), exec_read_of_ready ha hp addr, rfl, ?_⟩
  simp [readRun]

/-! ### Words written out from the spec -/

/-- Settles O1. -/
theorem specWordsDecode : Obligations.SpecWordsDecode := by
  unfold Obligations.SpecWordsDecode
  decide

end Sys2Proof.Machine

namespace Sys2Proof.Machine

variable {s t : State}

/-! ### INIT (40_init.md R90 to R92) -/

/-- The registers INIT writes (40_init.md R90); it writes no other. -/
theorem initRun_eng (a : Word) (c : BusCfg) (s : State) :
    (initRun a c s).eng = { s.eng with
      sendId := idmap Config.sendBase a, replyId := idmap Config.replyBase a
      payValid := false, payLen := 0, pay := zeroPay
      phase := phaseAfterStart s.nextStart, resCode := resAfterStart s.nextStart } := rfl

theorem initRun_events (a : Word) (c : BusCfg) (s : State) :
    (initRun a c s).events = s.events ++ [.busConfigure c, .busStart s.nextStart] := by
  simp [initRun]

theorem initRun_script (a : Word) (c : BusCfg) (s : State) :
    (initRun a c s).script = { s.script with start := answersAfter s.script.start 1 } := rfl

theorem zeroPay_get : ∀ i : Fin 6, zeroPay[i] = 0 := by decide

/-- Settles O19: the registers, events and answers of `initRun`, by the start-up answer. -/
theorem initPostsStartResult : Obligations.InitPostsStartResult := by
  rintro s a c ⟨hf, hs⟩ hp
  refine ⟨initRun a c s, exec_init_of_uninit ⟨hf, hs⟩ hp a c, fun hok => ?_, fun hno => ?_, rfl, rfl, zeroPay_get,
    hf, hs, initRun_events a c s, initRun_script a c s⟩
  · simp [initRun_eng, hok, phaseAfterStart, resAfterStart]
  · simp [initRun_eng, hno, phaseAfterStart, resAfterStart]

/-- The identifier mapper as natural-number addition (40_init.md R91). -/
theorem idmap_toNat (base a : Word) : (idmap base a).toNat = (base.toNat + a.toNat) % 2 ^ 32 :=
  BitVec.toNat_add base a

/-- Settles O20: both identifiers come from the mapper. -/
theorem identifierMapperAddsModulo : Obligations.IdentifierMapperAddsModulo :=
  fun s a c ha hp => ⟨initRun a c s, exec_init_of_uninit ha hp a c,
    idmap_toNat Config.sendBase a, idmap_toNat Config.replyBase a⟩

/-- Settles O24: INIT raises REINIT, which adds no event, or it runs, and adds its two calls. -/
theorem initLeavesTheRest : Obligations.InitLeavesTheRest := by
  intro s t a c h
  cases (exec_eq_next h).2 with
  | reinit _ _ _ ht =>
    subst ht
    exact ⟨rfl, rfl, rfl, rfl, rfl, rfl, [], by simp, nofun⟩
  | initRuns _ _ _ ht =>
    subst ht
    exact ⟨rfl, rfl, rfl, rfl, rfl, rfl, _, initRun_events a c s, by simp [Event.isFrame]⟩

/-! ### Who writes the identifiers (40_init.md R92) -/

/-- The identifiers of `t` are those of `s`. -/
def State.SameIds (s t : State) : Prop := t.eng.sendId = s.eng.sendId ∧ t.eng.replyId = s.eng.replyId

theorem ExecCase.sameIds {i : Instr} (h : ExecCase s t i) (hp : s.eng.phase ≠ .uninit) : s.SameIds t := by
  cases h with
  | initRuns a c hu _ => exact absurd hu hp
  | reinit a c _ ht | writeNotReady a n p _ ht | writeTooLong a n p _ _ ht | writeSends a n p _ _ ht
  | readNotReady a _ ht | readRuns a _ ht | decodes _ ht | decodeFails _ ht => exact ht ▸ ⟨rfl, rfl⟩

theorem pollStep_sameIds (s : State) : s.SameIds (pollStep s) := by
  cases pollStep_cases s with
  | timesOut _ ht | waits _ _ ht | succeeds _ _ _ ht | mismatches _ _ _ ht => exact ht ▸ ⟨rfl, rfl⟩

/-- Past UNINIT the only step that writes an identifier is a reset: INIT raises REINIT there. -/
theorem step_sameIds (h : step s = .next t) (hp : s.eng.phase ≠ .uninit) (hr : ∀ rest, s.turns ≠ .reset :: rest) :
    s.SameIds t := by
  cases step_eq_next h with
  | reset rest hm _ => exact absurd hm (hr rest)
  | csrRead n rest _ ht | waits rest _ _ _ ht | illegal rest q qs _ _ _ _ _ ht => exact ht ▸ ⟨rfl, rfl⟩
  | polls rest _ _ ht => exact ht ▸ pollStep_sameIds (s.setTurns rest)
  | command rest q qs i _ _ _ _ hx => exact hx.sameIds hp

theorem eq_initRun_of_exec {a : Word} {c : BusCfg} (hp : s.eng.phase = .uninit)
    (h : exec (.init a c) s = .next t) : t = initRun a c s :=
  Host.Outcome.next.inj (h.symm.trans (exec_init_of_uninit (exec_eq_next h).1 hp a c))

/-- Settles O21: the mapper keeps the bases' distance, and then no step but a reset writes an identifier. -/
theorem identifiersFixedAfterInit : Obligations.IdentifiersFixedAfterInit := by
  refine ⟨fun s t a c hp h => ?_, fun s t hp h hr => step_sameIds h hp hr⟩
  rw [eq_initRun_of_exec hp h]
  exact idmap_sub_idmap a

end Sys2Proof.Machine

namespace Sys2Proof.Machine

variable {s t : State}

/-! ### WRITE: its frame, its rejection and what it leaves (41_write.md R100 to R103) -/

/-- Byte 2 + i of the body is byte i of P (30_encoding.md R76, R83). -/
theorem addressedFrame_carries_payload (id : Word) (a : RegAddr) (p : Payload) {n i : Nat} (hi : i < n) :
    (addressedFrame id a (payloadBytes p n)).body[2 + i]? = some ((p >>> (8 * i)).setWidth 8) := by
  have hbody : (addressedFrame id a (payloadBytes p n)).body[2 + i]? = (payloadBytes p n)[i]? := by
    rw [Nat.add_comm]
    rfl
  rw [hbody, List.getElem?_eq_getElem (by rwa [payloadBytes_length]), ← payloadByte_eq]
  simp only [payloadBytes, List.getElem_map, List.getElem_range]

theorem addressedFrame_body_length (id : Word) (a : RegAddr) (bs : List Byte) :
    (addressedFrame id a bs).body.length = 2 + bs.length := by
  simp only [addressedFrame, encodeBody, List.length_append, List.length_cons, List.length_nil]

/-- Settles O25: the frame is the addressed one that `exec_write_sends` puts into the history. -/
theorem writeEmitsExactlyOneFrame : Obligations.WriteEmitsExactlyOneFrame := by
  intro s a n p ha hp hn
  obtain ⟨hlow, hhigh⟩ := addressedFrame_opens_with_address s.eng.sendId a (payloadBytes p n.toNat)
  refine ⟨_, exec_write_sends ha hp a p hn, rfl, ?_, hlow, hhigh,
    fun i hi => addressedFrame_carries_payload s.eng.sendId a p hi⟩
  rw [addressedFrame_body_length, payloadBytes_length]

/-- A WRITE of more than 6 bytes posts INVALID_ARGUMENT and sends nothing (41_write.md R102). -/
theorem exec_write_rejects (ha : s.accepting) (hp : s.eng.phase = .ready) (a : RegAddr) {n : BitVec 4} (p : Payload)
    (hn : Config.payloadMax < n.toNat) : exec (.write a n p) s = .next (s.post .invalidArgument) := by
  rw [exec_write_of_ready ha hp, writeRun, if_pos hn]

/-- The one frame a WRITE can send is an addressed one, with the command's own address. -/
theorem frame_of_exec_write {a : RegAddr} {n : BitVec 4} {p : Payload} {f : Frame}
    (h : exec (.write a n p) s = .next t) (hf : t.events = s.events ++ [.txFrame f]) :
    f = addressedFrame s.eng.sendId a (payloadBytes p n.toNat) := by
  cases (exec_eq_next h).2 with
  | writeNotReady _ _ _ _ ht | writeTooLong _ _ _ _ _ ht =>
    subst ht
    simp at hf
  | writeSends _ _ _ _ _ ht =>
    subst ht
    simpa using hf.symm

/-- Settles O26: the rejection, and the address that opens every frame a WRITE sends. -/
theorem overlongWriteIsRejected : Obligations.OverlongWriteIsRejected := by
  refine fun s a n p ha hp => ⟨exec_write_rejects ha hp a p, fun t f h hf => ?_⟩
  rw [frame_of_exec_write h hf]
  exact addressedFrame_opens_with_address _ a _

/-- Settles O28: of a WRITE's three outcomes one raises a fault, and two post a result, one of them after a frame. -/
theorem writeLeavesTheRest : Obligations.WriteLeavesTheRest := by
  intro s t a n p h
  cases (exec_eq_next h).2 with
  | writeNotReady _ _ _ _ ht | writeTooLong _ _ _ _ _ ht | writeSends _ _ _ _ _ ht => subst ht; rfl

/-- A frame's bytes follow the call that begins it, in order (41_write.md R100). -/
theorem eventCalls_txFrame_byte (f : Frame) {i : Nat} (hi : i < f.body.length) :
    (eventCalls (.txFrame f))[i + 1]? = some (.busWriteByte f.body[i]) := by
  simp only [eventCalls, List.getElem?_cons_succ]
  rw [List.getElem?_append_left (by rwa [List.length_map]), List.getElem?_map, List.getElem?_eq_getElem hi,
    Option.map_some]

theorem eventCalls_txFrame_length (f : Frame) : (eventCalls (.txFrame f)).length = f.body.length + 2 := by
  simp only [eventCalls, List.length_cons, List.length_append, List.length_map, List.length_nil]

theorem eventCalls_txFrame_getLast (f : Frame) : (eventCalls (.txFrame f)).getLast? = some .busEndFrame :=
  List.getLast?_concat (l := Prim.busBeginFrame f.id :: f.body.map Prim.busWriteByte)

/-- Settles O49: the calls are begin, the bytes, end. -/
theorem frameIsOneCallSequence : Obligations.FrameIsOneCallSequence :=
  fun f => ⟨eventCalls_txFrame_length f, rfl, eventCalls_txFrame_getLast f, fun _ hi => eventCalls_txFrame_byte f hi⟩

end Sys2Proof.Machine

namespace Sys2Proof.Machine

variable {s t : State}

/-! ### Elapsed time (42_read.md R113) -/

/-- Settles O37: in the difference modulo 2^CLOCK_W the wrap of the sum drops out, and `t0` cancels. -/
theorem elapsedIsTrueAcrossWrap : Obligations.ElapsedIsTrueAcrossWrap := by
  intro clockW t0 d _ hd
  have hdiff : (((t0 + d) % 2 ^ clockW : Nat) - (t0 : Int)) % 2 ^ clockW = d := by
    push_cast
    rw [Int.emod_sub_emod, add_sub_cancel_left]
    exact Int.emod_eq_of_lt (Int.natCast_nonneg d) (mod_cast hd)
  rw [elapsed, hdiff, Int.toNat_natCast]

theorem windowElapsed_eq_false_iff (h : s.eng.t0 < 2 ^ s.params.clockW) :
    windowElapsed s.params s.nextClock s.eng.t0 = false ↔ s.windowOpen := by
  rw [← Bool.not_eq_true, windowElapsed_iff h, not_not]

/-! ### The acceptance of READ (42_read.md R110, R111) -/

/-- The registers READ's acceptance writes; it writes no other. -/
theorem readRun_eng (a : RegAddr) (s : State) :
    (readRun a s).eng = { s.eng with reqAddr := a, t0 := s.nextClock, seq := .awaitingReply } := rfl

theorem readRun_events (a : RegAddr) (s : State) :
    (readRun a s).events =
      s.events ++ [.txFrame (addressedFrame s.eng.sendId a []), .clockRead s.nextClock] := by
  simp [readRun]

theorem readRun_script (a : RegAddr) (s : State) :
    (readRun a s).script = { s.script with clock := answersAfter s.script.clock 1 } := rfl

/-- Settles O29: the registers, events and answer of `readRun`; the request's body is the address alone. -/
theorem readSendsRequestThenStartsTimer : Obligations.ReadSendsRequestThenStartsTimer := by
  intro s a ha hp
  refine ⟨readRun a s, exec_read_of_ready ha hp a, readRun_eng a s, nextClock_lt s, ?_, readRun_script a s⟩
  rw [readRun_events, addressedFrame, encodeBody_eq, List.append_nil]

/-- Settles O31: READ raises NOT_READY, or it runs. -/
theorem readLeavesTheRest : Obligations.ReadLeavesTheRest := by
  intro s t a h
  cases (exec_eq_next h).2 with
  | readNotReady _ _ ht | readRuns _ _ ht => subst ht; rfl

/-! ### The poll step, by what the clock, the poll and the frame say (42_read.md R112) -/

theorem pollStep_of_elapsed (hw : windowElapsed s.params s.nextClock s.eng.t0 = true) :
    pollStep s = s.clockRead.failRead .timeout := by
  cases pollStep_cases s with
  | timesOut _ ht => exact ht
  | waits hw' _ _ | succeeds hw' _ _ _ | mismatches hw' _ _ _ => simp [hw] at hw'

theorem pollStep_of_empty (hw : windowElapsed s.params s.nextClock s.eng.t0 = false) (hp : s.nextPoll = false) :
    pollStep s = s.polled := by
  cases pollStep_cases s with
  | waits _ _ ht => exact ht
  | timesOut hw' _ => simp [hw] at hw'
  | succeeds _ hp' _ _ | mismatches _ hp' _ _ => simp [hp] at hp'

theorem pollStep_of_echo (hw : windowElapsed s.params s.nextClock s.eng.t0 = false) (hp : s.nextPoll = true)
    (he : echoOk s.polled.drain.eng = true) : pollStep s = s.polled.drain.succeedRead := by
  cases pollStep_cases s with
  | succeeds _ _ _ ht => exact ht
  | timesOut hw' _ => simp [hw] at hw'
  | waits _ hp' _ => simp [hp] at hp'
  | mismatches _ _ he' _ => simp [he] at he'

theorem pollStep_of_mismatch (hw : windowElapsed s.params s.nextClock s.eng.t0 = false) (hp : s.nextPoll = true)
    (he : echoOk s.polled.drain.eng = false) : pollStep s = s.polled.drain.failRead .echoMismatch := by
  cases pollStep_cases s with
  | mismatches _ _ _ ht => exact ht
  | timesOut hw' _ => simp [hw] at hw'
  | waits _ hp' _ => simp [hp] at hp'
  | succeeds _ _ he' _ => simp [he] at he'

/-- The frame of the poll step: what R112 does not list stays. -/
theorem pollStep_leaves_the_rest (s : State) :
    (pollStep s).issues = s.issues ∧ (pollStep s).turns = s.turns ∧ (pollStep s).params = s.params ∧
      (pollStep s).csrOut = s.csrOut ∧ (pollStep s).script.start = s.script.start ∧
      (pollStep s).eng = { s.eng with
        seq := (pollStep s).eng.seq, rxBuf := (pollStep s).eng.rxBuf, rxCount := (pollStep s).eng.rxCount
        resCode := (pollStep s).eng.resCode, payValid := (pollStep s).eng.payValid
        payLen := (pollStep s).eng.payLen, pay := (pollStep s).eng.pay } := by
  cases pollStep_cases s with
  | timesOut _ ht | waits _ _ ht | succeeds _ _ _ ht | mismatches _ _ _ ht =>
    exact ht ▸ ⟨rfl, rfl, rfl, rfl, rfl, rfl⟩

/-- Settles O9: the poll step always answers, and what it leaves is its frame. -/
theorem pollStepCompletesAndHoldsCommands : Obligations.PollStepCompletesAndHoldsCommands :=
  fun s rest hm hp => ⟨_, step_of_polling hm hp, pollStep_leaves_the_rest (s.setTurns rest)⟩

/-- Settles O32: the clock read is the step's only call. -/
theorem elapsedWindowPostsTimeout : Obligations.ElapsedWindowPostsTimeout := by
  intro s rest hm hp ht0 hw
  have hpoll := pollStep_of_elapsed (s := s.setTurns rest) ((windowElapsed_iff ht0).mpr hw)
  exact ⟨_, (step_of_polling hm hp).trans (congrArg _ hpoll), rfl, rfl, rfl⟩

/-- Settles O33: the clock read and the poll write no register. -/
theorem emptyPollKeepsWaiting : Obligations.EmptyPollKeepsWaiting := by
  intro s rest hm hp ht0 hw hempty
  have hpoll := pollStep_of_empty (s := s.setTurns rest) ((windowElapsed_eq_false_iff ht0).mpr hw) hempty
  refine ⟨_, (step_of_polling hm hp).trans (congrArg _ hpoll), rfl, ?_, rfl⟩
  simp [State.polled, hempty]

/-! ### A frame judged by its echo (42_read.md R114 to R116) -/

section Frame

variable {k : Nat} (hk : (k : Int) = min (max s.nextAvail 0) 8)
include hk

/-- What a drain leaves behind, whatever the echo says: the count, the bytes with their tail 0x00, the events and the
answers taken. -/
theorem polled_drain_keeps_frame (hp : s.nextPoll = true) :
    s.polled.drain.eng.rxCount.val = k ∧
      (∀ i : Fin 8, s.polled.drain.eng.rxBuf[i] = if i.val < k then (s.nextBytes k).getD i.val 0 else 0x00) ∧
      s.polled.drain.events = s.events ++ [.clockRead s.nextClock, .busPoll true, .busAvail s.nextAvail] ++
        (s.nextBytes k).map .busReadByte ∧
      s.polled.drain.script = { s.script with
        clock := answersAfter s.script.clock 1, poll := answersAfter s.script.poll 1
        avail := answersAfter s.script.avail 1, byte := answersAfter s.script.byte k } := by
  refine ⟨?_, fun i => ?_, hp ▸ polled_drain_events hk, polled_drain_script hk⟩
  · rw [polled_drain_rx hk]
    exact clampCount_val hk
  · rw [polled_drain_rx hk]
    split
    · exact rxOf_get _ i
    · exact rxOf_nextBytes_tail s k i (not_lt.mp ‹_›)

/-- The payload after a success: the bytes that followed the echo, then 0x00 (42_read.md R116). -/
theorem polled_drain_succeedRead_pay (i : Fin 6) :
    s.polled.drain.succeedRead.eng.pay[i] = if i.val < k - 2 then (s.nextBytes k).getD (i.val + 2) 0 else 0x00 := by
  have hlt : i.val + 2 < k ↔ i.val < k - 2 := by omega
  rw [State.succeedRead_eng, payOf_get, payByteOf, polled_drain_rx hk, clampCount_val hk]
  exact if_congr hlt (rxOf_get (s.nextBytes k) ⟨i.val + 2, by omega⟩) rfl

theorem polled_drain_succeedRead_payLen : s.polled.drain.succeedRead.eng.payLen.val = k - 2 := by
  rw [State.succeedRead_eng, polled_drain_rx hk]
  exact congrArg (· - 2) (clampCount_val hk)

end Frame

/-- Settles O34: the echo comparator is true on the drained frame, so the READ succeeds. -/
theorem matchingEchoDeliversPayload : Obligations.MatchingEchoDeliversPayload := by
  intro s rest k hm hp ht0 hw hhit hk h2 hlow hhigh
  have hpoll := pollStep_of_echo (s := s.setTurns rest) ((windowElapsed_eq_false_iff ht0).mpr hw) hhit
    ((echoOk_polled_drain hk).mpr ⟨h2, hlow, hhigh⟩)
  exact ⟨_, (step_of_polling hm hp).trans (congrArg _ hpoll), rfl, rfl, rfl,
    polled_drain_succeedRead_payLen (s := s.setTurns rest) hk,
    polled_drain_succeedRead_pay (s := s.setTurns rest) hk,
    polled_drain_keeps_frame (s := s.setTurns rest) hk hhit⟩

/-- Settles O35: the echo comparator is false on the drained frame, so the READ fails and keeps the bytes. -/
theorem otherFrameEndsInMismatch : Obligations.OtherFrameEndsInMismatch := by
  intro s rest k hm hp ht0 hw hhit hk hecho
  have hpoll := pollStep_of_mismatch (s := s.setTurns rest) ((windowElapsed_eq_false_iff ht0).mpr hw) hhit
    (Bool.not_eq_true _ ▸ mt (echoOk_polled_drain hk).mp hecho)
  exact ⟨_, (step_of_polling hm hp).trans (congrArg _ hpoll), rfl, rfl, rfl, rfl, zeroPay_get,
    polled_drain_keeps_frame (s := s.setTurns rest) hk hhit⟩

/-! ### Who posts TIMEOUT (42_read.md R113, 70_reset_and_hazards.md R179) -/

/-- From `s` to `t` no TIMEOUT is posted: one that `t` shows stood before, and no READ has returned since. -/
def State.NoNewTimeout (s t : State) : Prop :=
  t.eng.resCode = .timeout → s.eng.resCode = .timeout ∧ (s.eng.seq = .awaitingReply → t.eng.seq = .awaitingReply)

theorem State.NoNewTimeout.of_eng_eq (h : t.eng = s.eng) : s.NoNewTimeout t :=
  fun hto => h ▸ ⟨hto, id⟩

/-- No command's result is TIMEOUT, and none is accepted while a READ is outstanding. -/
theorem ExecCase.noNewTimeout {i : Instr} (h : ExecCase s t i) (ha : s.accepting) : s.NoNewTimeout t := by
  intro hto
  refine ⟨?_, fun hs => nomatch ha.2.symm.trans hs⟩
  cases h with
  | reinit a c _ ht | writeNotReady a n p _ ht | readNotReady a _ ht | readRuns a _ ht =>
    subst ht
    exact hto
  | writeTooLong a n p _ _ ht | writeSends a n p _ _ ht | decodes _ ht | decodeFails _ ht =>
    subst ht
    exact nomatch hto
  | initRuns a c _ ht =>
    subst ht
    rw [initRun_eng] at hto
    cases hok : s.nextStart <;> simp [hok, resAfterStart] at hto

theorem pollStep_elapsed_or_noNewTimeout (s : State) :
    windowElapsed s.params s.nextClock s.eng.t0 = true ∨ s.NoNewTimeout (pollStep s) := by
  cases pollStep_cases s with
  | timesOut hw _ => exact .inl hw
  | waits _ _ ht => exact .inr (.of_eng_eq (ht ▸ rfl))
  | succeeds _ _ _ ht | mismatches _ _ _ ht => exact .inr (ht ▸ nofun)

theorem step_elapsed_or_noNewTimeout (h : step s = .next t) :
    (s.polling ∧ windowElapsed s.params s.nextClock s.eng.t0 = true) ∨ s.NoNewTimeout t := by
  cases step_eq_next h with
  | reset rest _ ht => exact .inr (ht ▸ nofun)
  | csrRead n rest _ ht | waits rest _ _ _ ht => exact .inr (.of_eng_eq (ht ▸ rfl))
  | illegal rest q qs _ _ _ _ _ ht => exact .inr (ht ▸ fun hto => ⟨hto, id⟩)
  | polls rest _ hp ht => exact (pollStep_elapsed_or_noNewTimeout (s.setTurns rest)).imp (⟨hp, ·⟩) (ht ▸ ·)
  | command rest q qs i _ ha _ _ hx => exact .inr (hx.noNewTimeout ha)

/-- Settles O38: a step that is no such poll step posts no TIMEOUT. -/
theorem timeoutIsNeverEarly : Obligations.TimeoutIsNeverEarly := by
  intro s t ht0 hstep hto hnew
  obtain ⟨hp, hw⟩ | hno := step_elapsed_or_noNewTimeout hstep
  · exact ⟨hp, (windowElapsed_iff ht0).mp hw⟩
  · obtain ⟨hold, hwaits⟩ := hno hto
    obtain hne | ⟨hseq, hidle⟩ := hnew
    · exact absurd hold hne
    · exact nomatch hidle.symm.trans (hwaits hseq)

/-! ### The identifiers in the poll step (42_read.md R118) -/

/-- The state with other identifiers. -/
def State.withIds (s : State) (x y : Word) : State := { s with eng := { s.eng with replyId := x, sendId := y } }

/-- The poll step's tests read no identifier, so both states take the same case. -/
theorem pollStep_withIds (s : State) (x y : Word) : pollStep (s.withIds x y) = (pollStep s).withIds x y := by
  cases pollStep_cases s with
  | timesOut hw ht => exact ht ▸ pollStep_of_elapsed (s := s.withIds x y) hw
  | waits hw hp ht => exact ht ▸ pollStep_of_empty (s := s.withIds x y) hw hp
  | succeeds hw hp he ht => exact ht ▸ pollStep_of_echo (s := s.withIds x y) hw hp he
  | mismatches hw hp he ht => exact ht ▸ pollStep_of_mismatch (s := s.withIds x y) hw hp he

/-- Settles O40: replacing the identifiers commutes with the poll step. -/
theorem identifiersPlayNoPartInPolling : Obligations.IdentifiersPlayNoPartInPolling := by
  intro s rest x y hm hp
  refine ⟨_, step_of_polling hm hp, ?_⟩
  calc step (s.withIds x y) = .next (pollStep ((s.setTurns rest).withIds x y)) :=
        step_of_polling (s := s.withIds x y) hm hp
    _ = .next ((pollStep (s.setTurns rest)).withIds x y) := congrArg _ (pollStep_withIds (s.setTurns rest) x y)

end Sys2Proof.Machine

namespace Sys2Proof.Machine

variable {s t : State}

/-! ### DECODE (43_decode.md R130 to R132) -/

theorem decodable_iff (e : Engine) :
    decodable e = true ↔ e.payValid = true ∧ (e.payLen = 1 ∨ e.payLen = 2) := by
  simp only [decodable, Bool.and_eq_true, Bool.or_eq_true, beq_iff_eq, Fin.ext_iff, Fin.isValue, Fin.val_one,
    Fin.val_two]

theorem dec8_toNat (b : Byte) : (dec8 b).toNat = b.toNat := BitVec.toNat_setWidth_of_le (by decide)

/-- The shift at 16 bits loses no bit of the high byte, and the low byte fills the place it leaves (R131). -/
theorem dec16_toNat (b0 b1 : Byte) : (dec16 b0 b1).toNat = 256 * b1.toNat + b0.toNat := by
  have hhigh : b1.toNat <<< 8 % 2 ^ 16 = b1.toNat <<< 8 := by
    rw [Nat.shiftLeft_eq]
    omega
  calc (dec16 b0 b1).toNat = b1.toNat <<< 8 ||| b0.toNat := by
        rw [dec16, BitVec.toNat_or, BitVec.toNat_shiftLeft, BitVec.toNat_setWidth_of_le (by decide),
          BitVec.toNat_setWidth_of_le (by decide), hhigh]
    _ = b1.toNat * 2 ^ 8 + b0.toNat := shiftLeft_or_toNat b0.isLt
    _ = 256 * b1.toNat + b0.toNat := by omega

theorem decodedValue_toNat_of_one {e : Engine} (h : e.payLen = 1) : (decodedValue e).toNat = e.pay[0].toNat := by
  rw [decodedValue, if_pos (by simp [h]), dec8_toNat]

theorem decodedValue_toNat_of_two {e : Engine} (h : e.payLen = 2) :
    (decodedValue e).toNat = 256 * e.pay[1].toNat + e.pay[0].toNat := by
  rw [decodedValue, if_neg (by simp [h]), dec16_toNat]

theorem exec_decode_of_decodable (ha : s.accepting) (hd : decodable s.eng = true) :
    exec .decode s = .next ((s.setDecoded true (decodedValue s.eng)).post .ok) := by
  rw [exec, execDecode, accept_of_accepting ha, decodeRun, if_pos hd]

theorem exec_decode_of_not_decodable (ha : s.accepting) (hd : decodable s.eng = false) :
    exec .decode s = .next ((s.setDecoded false 0).post .invalidArgument) := by
  rw [exec, execDecode, accept_of_accepting ha, decodeRun, if_neg (Bool.not_eq_true _ ▸ hd)]

/-- Settles O41: each of the two lengths has its decoder. -/
theorem decodeGivesLittleEndianValue : Obligations.DecodeGivesLittleEndianValue :=
  fun s ha hv hlen => ⟨decodedValue s.eng, exec_decode_of_decodable ha ((decodable_iff _).mpr ⟨hv, hlen⟩),
    decodedValue_toNat_of_one, decodedValue_toNat_of_two⟩

/-- Settles O42. -/
theorem decodeWithoutPayloadIsRefused : Obligations.DecodeWithoutPayloadIsRefused :=
  fun _ ha hno => exec_decode_of_not_decodable ha (Bool.not_eq_true _ ▸ mt (decodable_iff _).mp hno)

/-- Settles O43: DECODE writes neither the payload nor what an acceptance asks, so the second takes the first's case. -/
theorem decodeRepeats : Obligations.DecodeRepeats := by
  intro s t h
  obtain ⟨ha, hx⟩ := exec_eq_next h
  cases hx with
  | decodes hd ht =>
    subst ht
    exact exec_decode_of_decodable (s := (s.setDecoded true (decodedValue s.eng)).post .ok) ha hd
  | decodeFails hd ht =>
    subst ht
    exact exec_decode_of_not_decodable (s := (s.setDecoded false 0).post .invalidArgument) ha hd

/-- Settles O44: both outcomes write the decoded value and the result, and nothing else. -/
theorem decodeLeavesTheRest : Obligations.DecodeLeavesTheRest := by
  intro s t h
  obtain ⟨-, hx⟩ := exec_eq_next h
  cases hx with
  | decodes _ ht | decodeFails _ ht => exact ht ▸ rfl

end Sys2Proof.Machine

namespace Sys2Proof.Machine

variable {s t : State}

/-! ### Faults (60_exceptions.md R142, R144) -/

theorem exec_of_faulted (hf : s.eng.fault ≠ .none) (i : Instr) : exec i s = .fault (.stuck s.eng.fault) := by
  cases i with
  | init | write | read | decode => exact accept_of_faulted hf

/-- Settles O10: neither the engine's turn nor a command gets past the test of `fault`. -/
theorem faultedEngineHasNoStep : Obligations.FaultedEngineHasNoStep :=
  fun s rest hm hf =>
    ⟨(step_of_engineMoves hm).trans (engineTurn_of_faulted (s := s.setTurns rest) hf), exec_of_faulted hf⟩

theorem exec_init_of_not_uninit (ha : s.accepting) (hp : s.eng.phase ≠ .uninit) (a : Word) (c : BusCfg) :
    exec (.init a c) s = .next (s.raise .reinit) := by
  rw [exec, execInit, accept_of_accepting ha, if_pos hp]

theorem exec_write_of_not_ready (ha : s.accepting) (hp : s.eng.phase ≠ .ready) (a : RegAddr) (n : BitVec 4)
    (p : Payload) : exec (.write a n p) s = .next (s.raise .notReady) := by
  rw [exec, execWrite, accept_of_accepting ha, if_pos hp]

theorem exec_read_of_not_ready (ha : s.accepting) (hp : s.eng.phase ≠ .ready) (a : RegAddr) :
    exec (.read a) s = .next (s.raise .notReady) := by
  rw [exec, execRead, accept_of_accepting ha, if_pos hp]

/-- Settles O23: each command's phase test fails, and `raise` writes `fault` alone. -/
theorem outOfPhaseCommandOnlyFaults : Obligations.OutOfPhaseCommandOnlyFaults :=
  fun _ ha => ⟨exec_init_of_not_uninit ha,
    fun hp => ⟨exec_write_of_not_ready ha hp, exec_read_of_not_ready ha hp⟩⟩

/-! ### The faults and results of each command (60_exceptions.md R143) -/

theorem step_of_accepting {rest : List Turn} {q : Issue} {qs : List Issue} (hm : s.engineMoves rest)
    (ha : s.accepting) (hi : s.issues = q :: qs) :
    step s = acceptIssue q ((s.setTurns rest).setIssues qs) :=
  (step_of_engineMoves hm).trans (engineTurn_of_accepting (s := s.setTurns rest) ha hi)

theorem resAfterStart_eq_initFailure_or_ok (ok : Bool) :
    resAfterStart ok = .initFailure ∨ resAfterStart ok = .ok := by
  cases ok with
  | false => exact .inl rfl
  | true => exact .inr rfl

/-- The row of the poll step in R143: no case writes `fault`, and each case that returns posts its own result. -/
theorem pollStep_outcome (hp : s.polling) :
    (pollStep s).eng.fault = .none ∧
      (((pollStep s).eng.seq = .awaitingReply ∧ (pollStep s).eng.resCode = s.eng.resCode) ∨
       ((pollStep s).eng.seq = .idle ∧
         ((pollStep s).eng.resCode = .ok ∨ (pollStep s).eng.resCode = .timeout ∨
          (pollStep s).eng.resCode = .echoMismatch))) := by
  obtain ⟨hf, hs⟩ := hp
  cases pollStep_cases s with
  | timesOut _ ht => exact ht ▸ ⟨hf, .inr ⟨rfl, .inr (.inl rfl)⟩⟩
  | waits _ _ ht => exact ht ▸ ⟨hf, .inl ⟨hs, rfl⟩⟩
  | succeeds _ _ _ ht => exact ht ▸ ⟨hf, .inr ⟨rfl, .inl rfl⟩⟩
  | mismatches _ _ _ ht => exact ht ▸ ⟨hf, .inr ⟨rfl, .inr (.inr rfl)⟩⟩

/-- Settles O48: an illegal word raises its fault, a legal one leads to one of the cases of its command. -/
theorem outcomesByCommand : Obligations.OutcomesByCommand := by
  constructor
  · intro s t rest q qs hm ha hi h
    rw [step_of_accepting hm ha hi] at h
    obtain ⟨hf, hs⟩ := ha
    cases hd : decode q with
    | error e =>
      rw [acceptIssue_of_error (s := (s.setTurns rest).setIssues qs) ⟨hf, hs⟩ hd] at h
      cases h
      exact ⟨rfl, rfl⟩
    | ok i =>
      rw [acceptIssue_of_decode hd] at h
      obtain ⟨-, hx⟩ := exec_eq_next h
      cases hx with
      | reinit a c _ ht => exact ht ▸ .inl ⟨rfl, rfl⟩
      | initRuns a c _ ht => exact ht ▸ .inr ⟨hf, resAfterStart_eq_initFailure_or_ok _⟩
      | writeNotReady a n p _ ht => exact ht ▸ .inl ⟨rfl, rfl⟩
      | writeTooLong a n p _ _ ht => exact ht ▸ .inr ⟨hf, .inl rfl⟩
      | writeSends a n p _ _ ht => exact ht ▸ .inr ⟨hf, .inr rfl⟩
      | readNotReady a _ ht => exact ht ▸ .inl ⟨rfl, rfl, hs⟩
      | readRuns a _ ht => exact ht ▸ .inr ⟨hf, rfl, rfl⟩
      | decodes _ ht => exact ht ▸ ⟨hf, .inr rfl⟩
      | decodeFails _ ht => exact ht ▸ ⟨hf, .inl rfl⟩
  · intro s t rest hm hp h
    obtain rfl := Host.Outcome.next.inj ((step_of_polling hm hp).symm.trans h)
    exact pollStep_outcome (s := s.setTurns rest) hp

end Sys2Proof.Machine

namespace Sys2Proof.Machine

variable {s : State}

/-! ### Every READ returns once its window closes (42_read.md R120, 70_reset_and_hazards.md R180) -/

/-- The READ has returned with one of its three results (60_exceptions.md R143). -/
def State.ReadReturned (t : State) : Prop :=
  t.eng.seq = .idle ∧ (t.eng.resCode = .ok ∨ t.eng.resCode = .timeout ∨ t.eng.resCode = .echoMismatch)

/-- The n-th clock answer to come, counting from 0, is past the window of the READ now outstanding. -/
def State.windowClosedAt (s : State) (n : Nat) : Prop :=
  s.params.timeoutTicks ≤
    (answerAt s.script.clock Config.freeClock n % 2 ^ s.params.clockW + 2 ^ s.params.clockW - s.eng.t0)
      % 2 ^ s.params.clockW

/-- The answer at 0 is the one the next clock read gets. -/
theorem windowClosedAt_zero : s.windowClosedAt 0 ↔ ¬ s.windowOpen := not_lt.symm

/-- An empty poll step takes one clock answer and leaves `t0`, so the closing answer comes one nearer. -/
theorem polled_windowClosedAt (n : Nat) : s.polled.windowClosedAt n ↔ s.windowClosedAt (n + 1) := by
  have hclock : answerAt s.polled.script.clock Config.freeClock n =
      answerAt s.script.clock Config.freeClock (n + 1) :=
    (answerAt_answersAfter s.script.clock Config.freeClock 1 n).trans (by rw [Nat.add_comm])
  rw [State.windowClosedAt, hclock]
  rfl

/-- A poll step that does not return the READ is an empty poll inside the window. -/
theorem pollStep_returns_or_waits (s : State) :
    (pollStep s).ReadReturned ∨
      (windowElapsed s.params s.nextClock s.eng.t0 = false ∧ pollStep s = s.polled) := by
  cases pollStep_cases s with
  | timesOut _ ht => exact .inl (ht ▸ ⟨rfl, .inr (.inl rfl)⟩)
  | waits hw _ ht => exact .inr ⟨hw, ht⟩
  | succeeds _ _ _ ht => exact .inl (ht ▸ ⟨rfl, .inl rfl⟩)
  | mismatches _ _ _ ht => exact .inl (ht ▸ ⟨rfl, .inr (.inr rfl)⟩)

/-- With no turn given the step is the engine's, and the list of turns stays empty. -/
theorem step_of_polling_of_no_turns (hp : s.polling) (hts : s.turns = []) : step s = .next (pollStep s) := by
  simp only [step, takeTurn, hts, engineTurn_of_polling hp]

/-- By induction on the place of the closing answer: each step returns the READ or brings that answer one nearer, and
at place 0 it cannot wait. -/
theorem run_returns_of_windowClosedAt {n : Nat} (hp : s.polling) (hts : s.turns = [])
    (ht0 : s.eng.t0 < 2 ^ s.params.clockW) (hn : s.windowClosedAt n) :
    ∃ k t, k ≤ n + 1 ∧ Host.Core.run Sys2Proof.core k s = .next t ∧ t.ReadReturned := by
  induction n generalizing s with
  | zero =>
    have hret := (pollStep_returns_or_waits s).resolve_right fun ⟨hw, _⟩ =>
      windowClosedAt_zero.mp hn ((windowElapsed_eq_false_iff ht0).mp hw)
    exact ⟨1, pollStep s, le_rfl, run_succ_of_step (step_of_polling_of_no_turns hp hts) 0, hret⟩
  | succ n ih =>
    have hstep := step_of_polling_of_no_turns hp hts
    obtain hret | ⟨-, hwait⟩ := pollStep_returns_or_waits s
    · exact ⟨1, pollStep s, by omega, run_succ_of_step hstep 0, hret⟩
    · obtain ⟨k, t, hk, hrun, hret⟩ := ih (s := s.polled) hp hts ht0 ((polled_windowClosedAt n).mpr hn)
      exact ⟨k + 1, t, by omega, (run_succ_of_step (hwait ▸ hstep) k).trans hrun, hret⟩

/-- Settles O39: the premise on the clock is `windowClosedAt`, the result `ReadReturned`. -/
theorem readReturnsOnceWindowCloses : Obligations.ReadReturnsOnceWindowCloses :=
  fun _ _ hp hts ht0 hn => run_returns_of_windowClosedAt hp hts ht0 hn

/-! ### Reset (70_reset_and_hazards.md R165, R166) -/

theorem step_of_reset {rest : List Turn} (hts : s.turns = .reset :: rest) :
    step s = .next (s.setTurns rest).hostReset := by
  simp only [step, takeTurn, hts]

theorem zeroRx_get : ∀ i : Fin 8, zeroRx[i] = 0 := by decide

/-- Settles O16: every register is `Engine.reset`'s, and of the other fields only the list of turns is written. -/
theorem resetWritesEveryField : Obligations.ResetWritesEveryField :=
  fun _ _ hts => ⟨_, step_of_reset hts, rfl, rfl, rfl, rfl, rfl, rfl, rfl, rfl, zeroRx_get, rfl, rfl, rfl, zeroPay_get,
    rfl, rfl, rfl, rfl, rfl, rfl, rfl, rfl⟩

theorem csrValue_reset : ∀ n, csrValue Engine.reset n = 0 := by decide

/-- Settles O17: the reset values of the registers, and of each CSR that shows them. -/
theorem resetStateReadsZero : Obligations.ResetStateReadsZero := ⟨⟨rfl, rfl⟩, rfl, csrValue_reset⟩

end Sys2Proof.Machine

namespace Sys2Proof.Machine

/-! ### The idle engine (70_reset_and_hazards.md section 1) -/

/-- Settles O12: an engine that ended well accepts commands and has none, so its turn leaves the state as it found it. -/
theorem idleEngineWaits : Obligations.IdleEngineWaits := by
  intro s rest hm ⟨hissues, hidle, hfault⟩
  calc step s = engineTurn (s.setTurns rest) := step_of_engineMoves hm
    _ = .next (s.setTurns rest) := engineTurn_of_waiting (s := s.setTurns rest) ⟨hfault, hidle⟩ hissues

end Sys2Proof.Machine
